-- ==== Sys2Proof/Word.lean ====
section
/-! DEFINITION. The word types: 8-bit bytes and 16-bit words (R7, R11), their halves and their
concatenation. -/

namespace Sys2Proof

/-- An 8-bit value: the width of every data register and of every bus access (R7). -/
abbrev Byte := BitVec 8

/-- A 16-bit value: register pairs, SP, PC and bus addresses (R7). -/
abbrev Word := BitVec 16

/-- `hi:lo` (R11): the first operand in bits 15 to 8. -/
def mkWord (hi lo : Byte) : Word := hi ++ lo

/-- Bits 15 to 8 of a word (R11). -/
def hiByte (w : Word) : Byte := w.extractLsb' 8 8

/-- Bits 7 to 0 of a word (R11). -/
def loByte (w : Word) : Byte := w.extractLsb' 0 8

end Sys2Proof
end

