-- ==== Sys2Proof/Syntax.lean ====
section
/-! DEFINITION. The instruction set as syntax: one constructor for each of the 511 rows of
spec/opcode_table.json (244 primary opcodes, 256 extended opcodes, the 11 illegal opcodes of
R181). A constructor's name is the row's mnemonic with its operands joined by underscores;
`mX` stands for the memory operand `(X)`, `mHLI` and `mHLD` for `(HL+)` and `(HL-)`.
Immediate operands are the constructor's arguments (R171, R179): `d8`, `a8`, `e8` one byte,
`d16`, `a16` one 16-bit word. The second byte of STOP, which the hardware fetches and ignores
(R323), is kept as an argument so that no bit of an encoding is lost. -/

namespace Sys2Proof

/-- The instructions of Table E-1 (R175), the eleven illegal opcodes (R181) and Table E-2 (R176). -/
inductive Instr where
  | nop -- 00: NOP
  | ld_BC_d16 (d16 : Word) -- 01: LD BC,d16
  | ld_mBC_A -- 02: LD (BC),A
  | inc_BC -- 03: INC BC
  | inc_B -- 04: INC B
  | dec_B -- 05: DEC B
  | ld_B_d8 (d8 : Byte) -- 06: LD B,d8
  | rlca -- 07: RLCA
  | ld_mA16_SP (a16 : Word) -- 08: LD (a16),SP
  | add_HL_BC -- 09: ADD HL,BC
  | ld_A_mBC -- 0A: LD A,(BC)
  | dec_BC -- 0B: DEC BC
  | inc_C -- 0C: INC C
  | dec_C -- 0D: DEC C
  | ld_C_d8 (d8 : Byte) -- 0E: LD C,d8
  | rrca -- 0F: RRCA
  | stop (ignored : Byte) -- 10: STOP
  | ld_DE_d16 (d16 : Word) -- 11: LD DE,d16
  | ld_mDE_A -- 12: LD (DE),A
  | inc_DE -- 13: INC DE
  | inc_D -- 14: INC D
  | dec_D -- 15: DEC D
  | ld_D_d8 (d8 : Byte) -- 16: LD D,d8
  | rla -- 17: RLA
  | jr_e8 (e8 : Byte) -- 18: JR e8
  | add_HL_DE -- 19: ADD HL,DE
  | ld_A_mDE -- 1A: LD A,(DE)
  | dec_DE -- 1B: DEC DE
  | inc_E -- 1C: INC E
  | dec_E -- 1D: DEC E
  | ld_E_d8 (d8 : Byte) -- 1E: LD E,d8
  | rra -- 1F: RRA
  | jr_NZ_e8 (e8 : Byte) -- 20: JR NZ,e8
  | ld_HL_d16 (d16 : Word) -- 21: LD HL,d16
  | ld_mHLI_A -- 22: LD (HL+),A
  | inc_HL -- 23: INC HL
  | inc_H -- 24: INC H
  | dec_H -- 25: DEC H
  | ld_H_d8 (d8 : Byte) -- 26: LD H,d8
  | daa -- 27: DAA
  | jr_Z_e8 (e8 : Byte) -- 28: JR Z,e8
  | add_HL_HL -- 29: ADD HL,HL
  | ld_A_mHLI -- 2A: LD A,(HL+)
  | dec_HL -- 2B: DEC HL
  | inc_L -- 2C: INC L
  | dec_L -- 2D: DEC L
  | ld_L_d8 (d8 : Byte) -- 2E: LD L,d8
  | cpl -- 2F: CPL
  | jr_NC_e8 (e8 : Byte) -- 30: JR NC,e8
  | ld_SP_d16 (d16 : Word) -- 31: LD SP,d16
  | ld_mHLD_A -- 32: LD (HL-),A
  | inc_SP -- 33: INC SP
  | inc_mHL -- 34: INC (HL)
  | dec_mHL -- 35: DEC (HL)
  | ld_mHL_d8 (d8 : Byte) -- 36: LD (HL),d8
  | scf -- 37: SCF
  | jr_C_e8 (e8 : Byte) -- 38: JR C,e8
  | add_HL_SP -- 39: ADD HL,SP
  | ld_A_mHLD -- 3A: LD A,(HL-)
  | dec_SP -- 3B: DEC SP
  | inc_A -- 3C: INC A
  | dec_A -- 3D: DEC A
  | ld_A_d8 (d8 : Byte) -- 3E: LD A,d8
  | ccf -- 3F: CCF
  | ld_B_B -- 40: LD B,B
  | ld_B_C -- 41: LD B,C
  | ld_B_D -- 42: LD B,D
  | ld_B_E -- 43: LD B,E
  | ld_B_H -- 44: LD B,H
  | ld_B_L -- 45: LD B,L
  | ld_B_mHL -- 46: LD B,(HL)
  | ld_B_A -- 47: LD B,A
  | ld_C_B -- 48: LD C,B
  | ld_C_C -- 49: LD C,C
  | ld_C_D -- 4A: LD C,D
  | ld_C_E -- 4B: LD C,E
  | ld_C_H -- 4C: LD C,H
  | ld_C_L -- 4D: LD C,L
  | ld_C_mHL -- 4E: LD C,(HL)
  | ld_C_A -- 4F: LD C,A
  | ld_D_B -- 50: LD D,B
  | ld_D_C -- 51: LD D,C
  | ld_D_D -- 52: LD D,D
  | ld_D_E -- 53: LD D,E
  | ld_D_H -- 54: LD D,H
  | ld_D_L -- 55: LD D,L
  | ld_D_mHL -- 56: LD D,(HL)
  | ld_D_A -- 57: LD D,A
  | ld_E_B -- 58: LD E,B
  | ld_E_C -- 59: LD E,C
  | ld_E_D -- 5A: LD E,D
  | ld_E_E -- 5B: LD E,E
  | ld_E_H -- 5C: LD E,H
  | ld_E_L -- 5D: LD E,L
  | ld_E_mHL -- 5E: LD E,(HL)
  | ld_E_A -- 5F: LD E,A
  | ld_H_B -- 60: LD H,B
  | ld_H_C -- 61: LD H,C
  | ld_H_D -- 62: LD H,D
  | ld_H_E -- 63: LD H,E
  | ld_H_H -- 64: LD H,H
  | ld_H_L -- 65: LD H,L
  | ld_H_mHL -- 66: LD H,(HL)
  | ld_H_A -- 67: LD H,A
  | ld_L_B -- 68: LD L,B
  | ld_L_C -- 69: LD L,C
  | ld_L_D -- 6A: LD L,D
  | ld_L_E -- 6B: LD L,E
  | ld_L_H -- 6C: LD L,H
  | ld_L_L -- 6D: LD L,L
  | ld_L_mHL -- 6E: LD L,(HL)
  | ld_L_A -- 6F: LD L,A
  | ld_mHL_B -- 70: LD (HL),B
  | ld_mHL_C -- 71: LD (HL),C
  | ld_mHL_D -- 72: LD (HL),D
  | ld_mHL_E -- 73: LD (HL),E
  | ld_mHL_H -- 74: LD (HL),H
  | ld_mHL_L -- 75: LD (HL),L
  | halt -- 76: HALT
  | ld_mHL_A -- 77: LD (HL),A
  | ld_A_B -- 78: LD A,B
  | ld_A_C -- 79: LD A,C
  | ld_A_D -- 7A: LD A,D
  | ld_A_E -- 7B: LD A,E
  | ld_A_H -- 7C: LD A,H
  | ld_A_L -- 7D: LD A,L
  | ld_A_mHL -- 7E: LD A,(HL)
  | ld_A_A -- 7F: LD A,A
  | add_A_B -- 80: ADD A,B
  | add_A_C -- 81: ADD A,C
  | add_A_D -- 82: ADD A,D
  | add_A_E -- 83: ADD A,E
  | add_A_H -- 84: ADD A,H
  | add_A_L -- 85: ADD A,L
  | add_A_mHL -- 86: ADD A,(HL)
  | add_A_A -- 87: ADD A,A
  | adc_A_B -- 88: ADC A,B
  | adc_A_C -- 89: ADC A,C
  | adc_A_D -- 8A: ADC A,D
  | adc_A_E -- 8B: ADC A,E
  | adc_A_H -- 8C: ADC A,H
  | adc_A_L -- 8D: ADC A,L
  | adc_A_mHL -- 8E: ADC A,(HL)
  | adc_A_A -- 8F: ADC A,A
  | sub_B -- 90: SUB B
  | sub_C -- 91: SUB C
  | sub_D -- 92: SUB D
  | sub_E -- 93: SUB E
  | sub_H -- 94: SUB H
  | sub_L -- 95: SUB L
  | sub_mHL -- 96: SUB (HL)
  | sub_A -- 97: SUB A
  | sbc_A_B -- 98: SBC A,B
  | sbc_A_C -- 99: SBC A,C
  | sbc_A_D -- 9A: SBC A,D
  | sbc_A_E -- 9B: SBC A,E
  | sbc_A_H -- 9C: SBC A,H
  | sbc_A_L -- 9D: SBC A,L
  | sbc_A_mHL -- 9E: SBC A,(HL)
  | sbc_A_A -- 9F: SBC A,A
  | and_B -- A0: AND B
  | and_C -- A1: AND C
  | and_D -- A2: AND D
  | and_E -- A3: AND E
  | and_H -- A4: AND H
  | and_L -- A5: AND L
  | and_mHL -- A6: AND (HL)
  | and_A -- A7: AND A
  | xor_B -- A8: XOR B
  | xor_C -- A9: XOR C
  | xor_D -- AA: XOR D
  | xor_E -- AB: XOR E
  | xor_H -- AC: XOR H
  | xor_L -- AD: XOR L
  | xor_mHL -- AE: XOR (HL)
  | xor_A -- AF: XOR A
  | or_B -- B0: OR B
  | or_C -- B1: OR C
  | or_D -- B2: OR D
  | or_E -- B3: OR E
  | or_H -- B4: OR H
  | or_L -- B5: OR L
  | or_mHL -- B6: OR (HL)
  | or_A -- B7: OR A
  | cp_B -- B8: CP B
  | cp_C -- B9: CP C
  | cp_D -- BA: CP D
  | cp_E -- BB: CP E
  | cp_H -- BC: CP H
  | cp_L -- BD: CP L
  | cp_mHL -- BE: CP (HL)
  | cp_A -- BF: CP A
  | ret_NZ -- C0: RET NZ
  | pop_BC -- C1: POP BC
  | jp_NZ_a16 (a16 : Word) -- C2: JP NZ,a16
  | jp_a16 (a16 : Word) -- C3: JP a16
  | call_NZ_a16 (a16 : Word) -- C4: CALL NZ,a16
  | push_BC -- C5: PUSH BC
  | add_A_d8 (d8 : Byte) -- C6: ADD A,d8
  | rst_0x00 -- C7: RST 0x00
  | ret_Z -- C8: RET Z
  | ret -- C9: RET
  | jp_Z_a16 (a16 : Word) -- CA: JP Z,a16
  | call_Z_a16 (a16 : Word) -- CC: CALL Z,a16
  | call_a16 (a16 : Word) -- CD: CALL a16
  | adc_A_d8 (d8 : Byte) -- CE: ADC A,d8
  | rst_0x08 -- CF: RST 0x08
  | ret_NC -- D0: RET NC
  | pop_DE -- D1: POP DE
  | jp_NC_a16 (a16 : Word) -- D2: JP NC,a16
  | call_NC_a16 (a16 : Word) -- D4: CALL NC,a16
  | push_DE -- D5: PUSH DE
  | sub_d8 (d8 : Byte) -- D6: SUB d8
  | rst_0x10 -- D7: RST 0x10
  | ret_C -- D8: RET C
  | reti -- D9: RETI
  | jp_C_a16 (a16 : Word) -- DA: JP C,a16
  | call_C_a16 (a16 : Word) -- DC: CALL C,a16
  | sbc_A_d8 (d8 : Byte) -- DE: SBC A,d8
  | rst_0x18 -- DF: RST 0x18
  | ldh_mA8_A (a8 : Byte) -- E0: LDH (a8),A
  | pop_HL -- E1: POP HL
  | ld_mC_A -- E2: LD (C),A
  | push_HL -- E5: PUSH HL
  | and_d8 (d8 : Byte) -- E6: AND d8
  | rst_0x20 -- E7: RST 0x20
  | add_SP_e8 (e8 : Byte) -- E8: ADD SP,e8
  | jp_HL -- E9: JP HL
  | ld_mA16_A (a16 : Word) -- EA: LD (a16),A
  | xor_d8 (d8 : Byte) -- EE: XOR d8
  | rst_0x28 -- EF: RST 0x28
  | ldh_A_mA8 (a8 : Byte) -- F0: LDH A,(a8)
  | pop_AF -- F1: POP AF
  | ld_A_mC -- F2: LD A,(C)
  | di -- F3: DI
  | push_AF -- F5: PUSH AF
  | or_d8 (d8 : Byte) -- F6: OR d8
  | rst_0x30 -- F7: RST 0x30
  | ld_HL_SPe8 (e8 : Byte) -- F8: LD HL,SP+e8
  | ld_SP_HL -- F9: LD SP,HL
  | ld_A_mA16 (a16 : Word) -- FA: LD A,(a16)
  | ei -- FB: EI
  | cp_d8 (d8 : Byte) -- FE: CP d8
  | rst_0x38 -- FF: RST 0x38
  | rlc_B -- CB 00: RLC B
  | rlc_C -- CB 01: RLC C
  | rlc_D -- CB 02: RLC D
  | rlc_E -- CB 03: RLC E
  | rlc_H -- CB 04: RLC H
  | rlc_L -- CB 05: RLC L
  | rlc_mHL -- CB 06: RLC (HL)
  | rlc_A -- CB 07: RLC A
  | rrc_B -- CB 08: RRC B
  | rrc_C -- CB 09: RRC C
  | rrc_D -- CB 0A: RRC D
  | rrc_E -- CB 0B: RRC E
  | rrc_H -- CB 0C: RRC H
  | rrc_L -- CB 0D: RRC L
  | rrc_mHL -- CB 0E: RRC (HL)
  | rrc_A -- CB 0F: RRC A
  | rl_B -- CB 10: RL B
  | rl_C -- CB 11: RL C
  | rl_D -- CB 12: RL D
  | rl_E -- CB 13: RL E
  | rl_H -- CB 14: RL H
  | rl_L -- CB 15: RL L
  | rl_mHL -- CB 16: RL (HL)
  | rl_A -- CB 17: RL A
  | rr_B -- CB 18: RR B
  | rr_C -- CB 19: RR C
  | rr_D -- CB 1A: RR D
  | rr_E -- CB 1B: RR E
  | rr_H -- CB 1C: RR H
  | rr_L -- CB 1D: RR L
  | rr_mHL -- CB 1E: RR (HL)
  | rr_A -- CB 1F: RR A
  | sla_B -- CB 20: SLA B
  | sla_C -- CB 21: SLA C
  | sla_D -- CB 22: SLA D
  | sla_E -- CB 23: SLA E
  | sla_H -- CB 24: SLA H
  | sla_L -- CB 25: SLA L
  | sla_mHL -- CB 26: SLA (HL)
  | sla_A -- CB 27: SLA A
  | sra_B -- CB 28: SRA B
  | sra_C -- CB 29: SRA C
  | sra_D -- CB 2A: SRA D
  | sra_E -- CB 2B: SRA E
  | sra_H -- CB 2C: SRA H
  | sra_L -- CB 2D: SRA L
  | sra_mHL -- CB 2E: SRA (HL)
  | sra_A -- CB 2F: SRA A
  | swap_B -- CB 30: SWAP B
  | swap_C -- CB 31: SWAP C
  | swap_D -- CB 32: SWAP D
  | swap_E -- CB 33: SWAP E
  | swap_H -- CB 34: SWAP H
  | swap_L -- CB 35: SWAP L
  | swap_mHL -- CB 36: SWAP (HL)
  | swap_A -- CB 37: SWAP A
  | srl_B -- CB 38: SRL B
  | srl_C -- CB 39: SRL C
  | srl_D -- CB 3A: SRL D
  | srl_E -- CB 3B: SRL E
  | srl_H -- CB 3C: SRL H
  | srl_L -- CB 3D: SRL L
  | srl_mHL -- CB 3E: SRL (HL)
  | srl_A -- CB 3F: SRL A
  | bit_0_B -- CB 40: BIT 0,B
  | bit_0_C -- CB 41: BIT 0,C
  | bit_0_D -- CB 42: BIT 0,D
  | bit_0_E -- CB 43: BIT 0,E
  | bit_0_H -- CB 44: BIT 0,H
  | bit_0_L -- CB 45: BIT 0,L
  | bit_0_mHL -- CB 46: BIT 0,(HL)
  | bit_0_A -- CB 47: BIT 0,A
  | bit_1_B -- CB 48: BIT 1,B
  | bit_1_C -- CB 49: BIT 1,C
  | bit_1_D -- CB 4A: BIT 1,D
  | bit_1_E -- CB 4B: BIT 1,E
  | bit_1_H -- CB 4C: BIT 1,H
  | bit_1_L -- CB 4D: BIT 1,L
  | bit_1_mHL -- CB 4E: BIT 1,(HL)
  | bit_1_A -- CB 4F: BIT 1,A
  | bit_2_B -- CB 50: BIT 2,B
  | bit_2_C -- CB 51: BIT 2,C
  | bit_2_D -- CB 52: BIT 2,D
  | bit_2_E -- CB 53: BIT 2,E
  | bit_2_H -- CB 54: BIT 2,H
  | bit_2_L -- CB 55: BIT 2,L
  | bit_2_mHL -- CB 56: BIT 2,(HL)
  | bit_2_A -- CB 57: BIT 2,A
  | bit_3_B -- CB 58: BIT 3,B
  | bit_3_C -- CB 59: BIT 3,C
  | bit_3_D -- CB 5A: BIT 3,D
  | bit_3_E -- CB 5B: BIT 3,E
  | bit_3_H -- CB 5C: BIT 3,H
  | bit_3_L -- CB 5D: BIT 3,L
  | bit_3_mHL -- CB 5E: BIT 3,(HL)
  | bit_3_A -- CB 5F: BIT 3,A
  | bit_4_B -- CB 60: BIT 4,B
  | bit_4_C -- CB 61: BIT 4,C
  | bit_4_D -- CB 62: BIT 4,D
  | bit_4_E -- CB 63: BIT 4,E
  | bit_4_H -- CB 64: BIT 4,H
  | bit_4_L -- CB 65: BIT 4,L
  | bit_4_mHL -- CB 66: BIT 4,(HL)
  | bit_4_A -- CB 67: BIT 4,A
  | bit_5_B -- CB 68: BIT 5,B
  | bit_5_C -- CB 69: BIT 5,C
  | bit_5_D -- CB 6A: BIT 5,D
  | bit_5_E -- CB 6B: BIT 5,E
  | bit_5_H -- CB 6C: BIT 5,H
  | bit_5_L -- CB 6D: BIT 5,L
  | bit_5_mHL -- CB 6E: BIT 5,(HL)
  | bit_5_A -- CB 6F: BIT 5,A
  | bit_6_B -- CB 70: BIT 6,B
  | bit_6_C -- CB 71: BIT 6,C
  | bit_6_D -- CB 72: BIT 6,D
  | bit_6_E -- CB 73: BIT 6,E
  | bit_6_H -- CB 74: BIT 6,H
  | bit_6_L -- CB 75: BIT 6,L
  | bit_6_mHL -- CB 76: BIT 6,(HL)
  | bit_6_A -- CB 77: BIT 6,A
  | bit_7_B -- CB 78: BIT 7,B
  | bit_7_C -- CB 79: BIT 7,C
  | bit_7_D -- CB 7A: BIT 7,D
  | bit_7_E -- CB 7B: BIT 7,E
  | bit_7_H -- CB 7C: BIT 7,H
  | bit_7_L -- CB 7D: BIT 7,L
  | bit_7_mHL -- CB 7E: BIT 7,(HL)
  | bit_7_A -- CB 7F: BIT 7,A
  | res_0_B -- CB 80: RES 0,B
  | res_0_C -- CB 81: RES 0,C
  | res_0_D -- CB 82: RES 0,D
  | res_0_E -- CB 83: RES 0,E
  | res_0_H -- CB 84: RES 0,H
  | res_0_L -- CB 85: RES 0,L
  | res_0_mHL -- CB 86: RES 0,(HL)
  | res_0_A -- CB 87: RES 0,A
  | res_1_B -- CB 88: RES 1,B
  | res_1_C -- CB 89: RES 1,C
  | res_1_D -- CB 8A: RES 1,D
  | res_1_E -- CB 8B: RES 1,E
  | res_1_H -- CB 8C: RES 1,H
  | res_1_L -- CB 8D: RES 1,L
  | res_1_mHL -- CB 8E: RES 1,(HL)
  | res_1_A -- CB 8F: RES 1,A
  | res_2_B -- CB 90: RES 2,B
  | res_2_C -- CB 91: RES 2,C
  | res_2_D -- CB 92: RES 2,D
  | res_2_E -- CB 93: RES 2,E
  | res_2_H -- CB 94: RES 2,H
  | res_2_L -- CB 95: RES 2,L
  | res_2_mHL -- CB 96: RES 2,(HL)
  | res_2_A -- CB 97: RES 2,A
  | res_3_B -- CB 98: RES 3,B
  | res_3_C -- CB 99: RES 3,C
  | res_3_D -- CB 9A: RES 3,D
  | res_3_E -- CB 9B: RES 3,E
  | res_3_H -- CB 9C: RES 3,H
  | res_3_L -- CB 9D: RES 3,L
  | res_3_mHL -- CB 9E: RES 3,(HL)
  | res_3_A -- CB 9F: RES 3,A
  | res_4_B -- CB A0: RES 4,B
  | res_4_C -- CB A1: RES 4,C
  | res_4_D -- CB A2: RES 4,D
  | res_4_E -- CB A3: RES 4,E
  | res_4_H -- CB A4: RES 4,H
  | res_4_L -- CB A5: RES 4,L
  | res_4_mHL -- CB A6: RES 4,(HL)
  | res_4_A -- CB A7: RES 4,A
  | res_5_B -- CB A8: RES 5,B
  | res_5_C -- CB A9: RES 5,C
  | res_5_D -- CB AA: RES 5,D
  | res_5_E -- CB AB: RES 5,E
  | res_5_H -- CB AC: RES 5,H
  | res_5_L -- CB AD: RES 5,L
  | res_5_mHL -- CB AE: RES 5,(HL)
  | res_5_A -- CB AF: RES 5,A
  | res_6_B -- CB B0: RES 6,B
  | res_6_C -- CB B1: RES 6,C
  | res_6_D -- CB B2: RES 6,D
  | res_6_E -- CB B3: RES 6,E
  | res_6_H -- CB B4: RES 6,H
  | res_6_L -- CB B5: RES 6,L
  | res_6_mHL -- CB B6: RES 6,(HL)
  | res_6_A -- CB B7: RES 6,A
  | res_7_B -- CB B8: RES 7,B
  | res_7_C -- CB B9: RES 7,C
  | res_7_D -- CB BA: RES 7,D
  | res_7_E -- CB BB: RES 7,E
  | res_7_H -- CB BC: RES 7,H
  | res_7_L -- CB BD: RES 7,L
  | res_7_mHL -- CB BE: RES 7,(HL)
  | res_7_A -- CB BF: RES 7,A
  | set_0_B -- CB C0: SET 0,B
  | set_0_C -- CB C1: SET 0,C
  | set_0_D -- CB C2: SET 0,D
  | set_0_E -- CB C3: SET 0,E
  | set_0_H -- CB C4: SET 0,H
  | set_0_L -- CB C5: SET 0,L
  | set_0_mHL -- CB C6: SET 0,(HL)
  | set_0_A -- CB C7: SET 0,A
  | set_1_B -- CB C8: SET 1,B
  | set_1_C -- CB C9: SET 1,C
  | set_1_D -- CB CA: SET 1,D
  | set_1_E -- CB CB: SET 1,E
  | set_1_H -- CB CC: SET 1,H
  | set_1_L -- CB CD: SET 1,L
  | set_1_mHL -- CB CE: SET 1,(HL)
  | set_1_A -- CB CF: SET 1,A
  | set_2_B -- CB D0: SET 2,B
  | set_2_C -- CB D1: SET 2,C
  | set_2_D -- CB D2: SET 2,D
  | set_2_E -- CB D3: SET 2,E
  | set_2_H -- CB D4: SET 2,H
  | set_2_L -- CB D5: SET 2,L
  | set_2_mHL -- CB D6: SET 2,(HL)
  | set_2_A -- CB D7: SET 2,A
  | set_3_B -- CB D8: SET 3,B
  | set_3_C -- CB D9: SET 3,C
  | set_3_D -- CB DA: SET 3,D
  | set_3_E -- CB DB: SET 3,E
  | set_3_H -- CB DC: SET 3,H
  | set_3_L -- CB DD: SET 3,L
  | set_3_mHL -- CB DE: SET 3,(HL)
  | set_3_A -- CB DF: SET 3,A
  | set_4_B -- CB E0: SET 4,B
  | set_4_C -- CB E1: SET 4,C
  | set_4_D -- CB E2: SET 4,D
  | set_4_E -- CB E3: SET 4,E
  | set_4_H -- CB E4: SET 4,H
  | set_4_L -- CB E5: SET 4,L
  | set_4_mHL -- CB E6: SET 4,(HL)
  | set_4_A -- CB E7: SET 4,A
  | set_5_B -- CB E8: SET 5,B
  | set_5_C -- CB E9: SET 5,C
  | set_5_D -- CB EA: SET 5,D
  | set_5_E -- CB EB: SET 5,E
  | set_5_H -- CB EC: SET 5,H
  | set_5_L -- CB ED: SET 5,L
  | set_5_mHL -- CB EE: SET 5,(HL)
  | set_5_A -- CB EF: SET 5,A
  | set_6_B -- CB F0: SET 6,B
  | set_6_C -- CB F1: SET 6,C
  | set_6_D -- CB F2: SET 6,D
  | set_6_E -- CB F3: SET 6,E
  | set_6_H -- CB F4: SET 6,H
  | set_6_L -- CB F5: SET 6,L
  | set_6_mHL -- CB F6: SET 6,(HL)
  | set_6_A -- CB F7: SET 6,A
  | set_7_B -- CB F8: SET 7,B
  | set_7_C -- CB F9: SET 7,C
  | set_7_D -- CB FA: SET 7,D
  | set_7_E -- CB FB: SET 7,E
  | set_7_H -- CB FC: SET 7,H
  | set_7_L -- CB FD: SET 7,L
  | set_7_mHL -- CB FE: SET 7,(HL)
  | set_7_A -- CB FF: SET 7,A
  | illegal_D3 -- D3: ILLEGAL_D3
  | illegal_DB -- DB: ILLEGAL_DB
  | illegal_DD -- DD: ILLEGAL_DD
  | illegal_E3 -- E3: ILLEGAL_E3
  | illegal_E4 -- E4: ILLEGAL_E4
  | illegal_EB -- EB: ILLEGAL_EB
  | illegal_EC -- EC: ILLEGAL_EC
  | illegal_ED -- ED: ILLEGAL_ED
  | illegal_F4 -- F4: ILLEGAL_F4
  | illegal_FC -- FC: ILLEGAL_FC
  | illegal_FD -- FD: ILLEGAL_FD
deriving DecidableEq, Repr

end Sys2Proof
end

