-- ==== Sys2Proof/Decode.lean ====
section
/-! DEFINITION. Decoding (R170 to R185) and encoding. Decoding is total: every opcode byte has an
entry in Table E-1 or Table E-2, the eleven illegal opcodes (R181) among them; a byte list that holds
no whole instruction is rejected by name. The tables are written row by row as R175 and R176 print
them (row: high nibble, column: low nibble). -/

namespace Sys2Proof

/-! ## Table E-2, the byte after 0xCB (R176) -/

/-- Row 0x of Table E-2 (R176). -/
def extendedRow0 : List Instr :=
  [Instr.rlc_B, Instr.rlc_C, Instr.rlc_D, Instr.rlc_E, Instr.rlc_H, Instr.rlc_L, Instr.rlc_mHL, Instr.rlc_A]
  ++ [Instr.rrc_B, Instr.rrc_C, Instr.rrc_D, Instr.rrc_E, Instr.rrc_H, Instr.rrc_L, Instr.rrc_mHL, Instr.rrc_A]

/-- Row 1x of Table E-2 (R176). -/
def extendedRow1 : List Instr :=
  [Instr.rl_B, Instr.rl_C, Instr.rl_D, Instr.rl_E, Instr.rl_H, Instr.rl_L, Instr.rl_mHL, Instr.rl_A]
  ++ [Instr.rr_B, Instr.rr_C, Instr.rr_D, Instr.rr_E, Instr.rr_H, Instr.rr_L, Instr.rr_mHL, Instr.rr_A]

/-- Row 2x of Table E-2 (R176). -/
def extendedRow2 : List Instr :=
  [Instr.sla_B, Instr.sla_C, Instr.sla_D, Instr.sla_E, Instr.sla_H, Instr.sla_L, Instr.sla_mHL, Instr.sla_A]
  ++ [Instr.sra_B, Instr.sra_C, Instr.sra_D, Instr.sra_E, Instr.sra_H, Instr.sra_L, Instr.sra_mHL, Instr.sra_A]

/-- Row 3x of Table E-2 (R176). -/
def extendedRow3 : List Instr :=
  [Instr.swap_B, Instr.swap_C, Instr.swap_D, Instr.swap_E, Instr.swap_H, Instr.swap_L, Instr.swap_mHL, Instr.swap_A]
  ++ [Instr.srl_B, Instr.srl_C, Instr.srl_D, Instr.srl_E, Instr.srl_H, Instr.srl_L, Instr.srl_mHL, Instr.srl_A]

/-- Row 4x of Table E-2 (R176). -/
def extendedRow4 : List Instr :=
  [Instr.bit_0_B, Instr.bit_0_C, Instr.bit_0_D, Instr.bit_0_E, Instr.bit_0_H, Instr.bit_0_L, Instr.bit_0_mHL, Instr.bit_0_A]
  ++ [Instr.bit_1_B, Instr.bit_1_C, Instr.bit_1_D, Instr.bit_1_E, Instr.bit_1_H, Instr.bit_1_L, Instr.bit_1_mHL, Instr.bit_1_A]

/-- Row 5x of Table E-2 (R176). -/
def extendedRow5 : List Instr :=
  [Instr.bit_2_B, Instr.bit_2_C, Instr.bit_2_D, Instr.bit_2_E, Instr.bit_2_H, Instr.bit_2_L, Instr.bit_2_mHL, Instr.bit_2_A]
  ++ [Instr.bit_3_B, Instr.bit_3_C, Instr.bit_3_D, Instr.bit_3_E, Instr.bit_3_H, Instr.bit_3_L, Instr.bit_3_mHL, Instr.bit_3_A]

/-- Row 6x of Table E-2 (R176). -/
def extendedRow6 : List Instr :=
  [Instr.bit_4_B, Instr.bit_4_C, Instr.bit_4_D, Instr.bit_4_E, Instr.bit_4_H, Instr.bit_4_L, Instr.bit_4_mHL, Instr.bit_4_A]
  ++ [Instr.bit_5_B, Instr.bit_5_C, Instr.bit_5_D, Instr.bit_5_E, Instr.bit_5_H, Instr.bit_5_L, Instr.bit_5_mHL, Instr.bit_5_A]

/-- Row 7x of Table E-2 (R176). -/
def extendedRow7 : List Instr :=
  [Instr.bit_6_B, Instr.bit_6_C, Instr.bit_6_D, Instr.bit_6_E, Instr.bit_6_H, Instr.bit_6_L, Instr.bit_6_mHL, Instr.bit_6_A]
  ++ [Instr.bit_7_B, Instr.bit_7_C, Instr.bit_7_D, Instr.bit_7_E, Instr.bit_7_H, Instr.bit_7_L, Instr.bit_7_mHL, Instr.bit_7_A]

/-- Row 8x of Table E-2 (R176). -/
def extendedRow8 : List Instr :=
  [Instr.res_0_B, Instr.res_0_C, Instr.res_0_D, Instr.res_0_E, Instr.res_0_H, Instr.res_0_L, Instr.res_0_mHL, Instr.res_0_A]
  ++ [Instr.res_1_B, Instr.res_1_C, Instr.res_1_D, Instr.res_1_E, Instr.res_1_H, Instr.res_1_L, Instr.res_1_mHL, Instr.res_1_A]

/-- Row 9x of Table E-2 (R176). -/
def extendedRow9 : List Instr :=
  [Instr.res_2_B, Instr.res_2_C, Instr.res_2_D, Instr.res_2_E, Instr.res_2_H, Instr.res_2_L, Instr.res_2_mHL, Instr.res_2_A]
  ++ [Instr.res_3_B, Instr.res_3_C, Instr.res_3_D, Instr.res_3_E, Instr.res_3_H, Instr.res_3_L, Instr.res_3_mHL, Instr.res_3_A]

/-- Row Ax of Table E-2 (R176). -/
def extendedRowA : List Instr :=
  [Instr.res_4_B, Instr.res_4_C, Instr.res_4_D, Instr.res_4_E, Instr.res_4_H, Instr.res_4_L, Instr.res_4_mHL, Instr.res_4_A]
  ++ [Instr.res_5_B, Instr.res_5_C, Instr.res_5_D, Instr.res_5_E, Instr.res_5_H, Instr.res_5_L, Instr.res_5_mHL, Instr.res_5_A]

/-- Row Bx of Table E-2 (R176). -/
def extendedRowB : List Instr :=
  [Instr.res_6_B, Instr.res_6_C, Instr.res_6_D, Instr.res_6_E, Instr.res_6_H, Instr.res_6_L, Instr.res_6_mHL, Instr.res_6_A]
  ++ [Instr.res_7_B, Instr.res_7_C, Instr.res_7_D, Instr.res_7_E, Instr.res_7_H, Instr.res_7_L, Instr.res_7_mHL, Instr.res_7_A]

/-- Row Cx of Table E-2 (R176). -/
def extendedRowC : List Instr :=
  [Instr.set_0_B, Instr.set_0_C, Instr.set_0_D, Instr.set_0_E, Instr.set_0_H, Instr.set_0_L, Instr.set_0_mHL, Instr.set_0_A]
  ++ [Instr.set_1_B, Instr.set_1_C, Instr.set_1_D, Instr.set_1_E, Instr.set_1_H, Instr.set_1_L, Instr.set_1_mHL, Instr.set_1_A]

/-- Row Dx of Table E-2 (R176). -/
def extendedRowD : List Instr :=
  [Instr.set_2_B, Instr.set_2_C, Instr.set_2_D, Instr.set_2_E, Instr.set_2_H, Instr.set_2_L, Instr.set_2_mHL, Instr.set_2_A]
  ++ [Instr.set_3_B, Instr.set_3_C, Instr.set_3_D, Instr.set_3_E, Instr.set_3_H, Instr.set_3_L, Instr.set_3_mHL, Instr.set_3_A]

/-- Row Ex of Table E-2 (R176). -/
def extendedRowE : List Instr :=
  [Instr.set_4_B, Instr.set_4_C, Instr.set_4_D, Instr.set_4_E, Instr.set_4_H, Instr.set_4_L, Instr.set_4_mHL, Instr.set_4_A]
  ++ [Instr.set_5_B, Instr.set_5_C, Instr.set_5_D, Instr.set_5_E, Instr.set_5_H, Instr.set_5_L, Instr.set_5_mHL, Instr.set_5_A]

/-- Row Fx of Table E-2 (R176). -/
def extendedRowF : List Instr :=
  [Instr.set_6_B, Instr.set_6_C, Instr.set_6_D, Instr.set_6_E, Instr.set_6_H, Instr.set_6_L, Instr.set_6_mHL, Instr.set_6_A]
  ++ [Instr.set_7_B, Instr.set_7_C, Instr.set_7_D, Instr.set_7_E, Instr.set_7_H, Instr.set_7_L, Instr.set_7_mHL, Instr.set_7_A]

/-- The extended opcode map, Table E-2 (R176). -/
def extendedTable : List (List Instr) :=
  [extendedRow0, extendedRow1, extendedRow2, extendedRow3, extendedRow4, extendedRow5, extendedRow6, extendedRow7]
  ++ [extendedRow8, extendedRow9, extendedRowA, extendedRowB, extendedRowC, extendedRowD, extendedRowE, extendedRowF]

/-- The entry of a table of 16 rows of 16 at a byte: row `hi`, column `lo` (R175). -/
def tableEntry {α : Type} (table : List (List α)) (dflt : α) (op : Byte) : α :=
  (table.getD (op.toNat / 16) []).getD (op.toNat % 16) dflt

/-- `Extended(op2)` (R185): all 256 extended opcodes are defined (R178). -/
def decodeExtended (op2 : Byte) : Instr := tableEntry extendedTable .nop op2

/-! ## Table E-1, the opcode byte (R175)

An entry takes the one or two bytes after the opcode: `d8`, `a8`, `e8` is the second byte, `d16` and
`a16` the word `byte3:byte2` (R171, R179). -/

/-- Row 0x of Table E-1 (R175), the illegal opcodes of R181 included. -/
def primaryRow0 : List (Byte → Byte → Instr) :=
  [fun _ _ => Instr.nop, fun lo hi => Instr.ld_BC_d16 (mkWord hi lo), fun _ _ => Instr.ld_mBC_A, fun _ _ => Instr.inc_BC]
  ++ [fun _ _ => Instr.inc_B, fun _ _ => Instr.dec_B, fun b _ => Instr.ld_B_d8 b, fun _ _ => Instr.rlca]
  ++ [fun lo hi => Instr.ld_mA16_SP (mkWord hi lo), fun _ _ => Instr.add_HL_BC, fun _ _ => Instr.ld_A_mBC, fun _ _ => Instr.dec_BC]
  ++ [fun _ _ => Instr.inc_C, fun _ _ => Instr.dec_C, fun b _ => Instr.ld_C_d8 b, fun _ _ => Instr.rrca]

/-- Row 1x of Table E-1 (R175), the illegal opcodes of R181 included. -/
def primaryRow1 : List (Byte → Byte → Instr) :=
  [fun b _ => Instr.stop b, fun lo hi => Instr.ld_DE_d16 (mkWord hi lo), fun _ _ => Instr.ld_mDE_A, fun _ _ => Instr.inc_DE]
  ++ [fun _ _ => Instr.inc_D, fun _ _ => Instr.dec_D, fun b _ => Instr.ld_D_d8 b, fun _ _ => Instr.rla]
  ++ [fun b _ => Instr.jr_e8 b, fun _ _ => Instr.add_HL_DE, fun _ _ => Instr.ld_A_mDE, fun _ _ => Instr.dec_DE]
  ++ [fun _ _ => Instr.inc_E, fun _ _ => Instr.dec_E, fun b _ => Instr.ld_E_d8 b, fun _ _ => Instr.rra]

/-- Row 2x of Table E-1 (R175), the illegal opcodes of R181 included. -/
def primaryRow2 : List (Byte → Byte → Instr) :=
  [fun b _ => Instr.jr_NZ_e8 b, fun lo hi => Instr.ld_HL_d16 (mkWord hi lo), fun _ _ => Instr.ld_mHLI_A, fun _ _ => Instr.inc_HL]
  ++ [fun _ _ => Instr.inc_H, fun _ _ => Instr.dec_H, fun b _ => Instr.ld_H_d8 b, fun _ _ => Instr.daa]
  ++ [fun b _ => Instr.jr_Z_e8 b, fun _ _ => Instr.add_HL_HL, fun _ _ => Instr.ld_A_mHLI, fun _ _ => Instr.dec_HL]
  ++ [fun _ _ => Instr.inc_L, fun _ _ => Instr.dec_L, fun b _ => Instr.ld_L_d8 b, fun _ _ => Instr.cpl]

/-- Row 3x of Table E-1 (R175), the illegal opcodes of R181 included. -/
def primaryRow3 : List (Byte → Byte → Instr) :=
  [fun b _ => Instr.jr_NC_e8 b, fun lo hi => Instr.ld_SP_d16 (mkWord hi lo), fun _ _ => Instr.ld_mHLD_A, fun _ _ => Instr.inc_SP]
  ++ [fun _ _ => Instr.inc_mHL, fun _ _ => Instr.dec_mHL, fun b _ => Instr.ld_mHL_d8 b, fun _ _ => Instr.scf]
  ++ [fun b _ => Instr.jr_C_e8 b, fun _ _ => Instr.add_HL_SP, fun _ _ => Instr.ld_A_mHLD, fun _ _ => Instr.dec_SP]
  ++ [fun _ _ => Instr.inc_A, fun _ _ => Instr.dec_A, fun b _ => Instr.ld_A_d8 b, fun _ _ => Instr.ccf]

/-- Row 4x of Table E-1 (R175), the illegal opcodes of R181 included. -/
def primaryRow4 : List (Byte → Byte → Instr) :=
  [fun _ _ => Instr.ld_B_B, fun _ _ => Instr.ld_B_C, fun _ _ => Instr.ld_B_D, fun _ _ => Instr.ld_B_E]
  ++ [fun _ _ => Instr.ld_B_H, fun _ _ => Instr.ld_B_L, fun _ _ => Instr.ld_B_mHL, fun _ _ => Instr.ld_B_A]
  ++ [fun _ _ => Instr.ld_C_B, fun _ _ => Instr.ld_C_C, fun _ _ => Instr.ld_C_D, fun _ _ => Instr.ld_C_E]
  ++ [fun _ _ => Instr.ld_C_H, fun _ _ => Instr.ld_C_L, fun _ _ => Instr.ld_C_mHL, fun _ _ => Instr.ld_C_A]

/-- Row 5x of Table E-1 (R175), the illegal opcodes of R181 included. -/
def primaryRow5 : List (Byte → Byte → Instr) :=
  [fun _ _ => Instr.ld_D_B, fun _ _ => Instr.ld_D_C, fun _ _ => Instr.ld_D_D, fun _ _ => Instr.ld_D_E]
  ++ [fun _ _ => Instr.ld_D_H, fun _ _ => Instr.ld_D_L, fun _ _ => Instr.ld_D_mHL, fun _ _ => Instr.ld_D_A]
  ++ [fun _ _ => Instr.ld_E_B, fun _ _ => Instr.ld_E_C, fun _ _ => Instr.ld_E_D, fun _ _ => Instr.ld_E_E]
  ++ [fun _ _ => Instr.ld_E_H, fun _ _ => Instr.ld_E_L, fun _ _ => Instr.ld_E_mHL, fun _ _ => Instr.ld_E_A]

/-- Row 6x of Table E-1 (R175), the illegal opcodes of R181 included. -/
def primaryRow6 : List (Byte → Byte → Instr) :=
  [fun _ _ => Instr.ld_H_B, fun _ _ => Instr.ld_H_C, fun _ _ => Instr.ld_H_D, fun _ _ => Instr.ld_H_E]
  ++ [fun _ _ => Instr.ld_H_H, fun _ _ => Instr.ld_H_L, fun _ _ => Instr.ld_H_mHL, fun _ _ => Instr.ld_H_A]
  ++ [fun _ _ => Instr.ld_L_B, fun _ _ => Instr.ld_L_C, fun _ _ => Instr.ld_L_D, fun _ _ => Instr.ld_L_E]
  ++ [fun _ _ => Instr.ld_L_H, fun _ _ => Instr.ld_L_L, fun _ _ => Instr.ld_L_mHL, fun _ _ => Instr.ld_L_A]

/-- Row 7x of Table E-1 (R175), the illegal opcodes of R181 included. -/
def primaryRow7 : List (Byte → Byte → Instr) :=
  [fun _ _ => Instr.ld_mHL_B, fun _ _ => Instr.ld_mHL_C, fun _ _ => Instr.ld_mHL_D, fun _ _ => Instr.ld_mHL_E]
  ++ [fun _ _ => Instr.ld_mHL_H, fun _ _ => Instr.ld_mHL_L, fun _ _ => Instr.halt, fun _ _ => Instr.ld_mHL_A]
  ++ [fun _ _ => Instr.ld_A_B, fun _ _ => Instr.ld_A_C, fun _ _ => Instr.ld_A_D, fun _ _ => Instr.ld_A_E]
  ++ [fun _ _ => Instr.ld_A_H, fun _ _ => Instr.ld_A_L, fun _ _ => Instr.ld_A_mHL, fun _ _ => Instr.ld_A_A]

/-- Row 8x of Table E-1 (R175), the illegal opcodes of R181 included. -/
def primaryRow8 : List (Byte → Byte → Instr) :=
  [fun _ _ => Instr.add_A_B, fun _ _ => Instr.add_A_C, fun _ _ => Instr.add_A_D, fun _ _ => Instr.add_A_E]
  ++ [fun _ _ => Instr.add_A_H, fun _ _ => Instr.add_A_L, fun _ _ => Instr.add_A_mHL, fun _ _ => Instr.add_A_A]
  ++ [fun _ _ => Instr.adc_A_B, fun _ _ => Instr.adc_A_C, fun _ _ => Instr.adc_A_D, fun _ _ => Instr.adc_A_E]
  ++ [fun _ _ => Instr.adc_A_H, fun _ _ => Instr.adc_A_L, fun _ _ => Instr.adc_A_mHL, fun _ _ => Instr.adc_A_A]

/-- Row 9x of Table E-1 (R175), the illegal opcodes of R181 included. -/
def primaryRow9 : List (Byte → Byte → Instr) :=
  [fun _ _ => Instr.sub_B, fun _ _ => Instr.sub_C, fun _ _ => Instr.sub_D, fun _ _ => Instr.sub_E]
  ++ [fun _ _ => Instr.sub_H, fun _ _ => Instr.sub_L, fun _ _ => Instr.sub_mHL, fun _ _ => Instr.sub_A]
  ++ [fun _ _ => Instr.sbc_A_B, fun _ _ => Instr.sbc_A_C, fun _ _ => Instr.sbc_A_D, fun _ _ => Instr.sbc_A_E]
  ++ [fun _ _ => Instr.sbc_A_H, fun _ _ => Instr.sbc_A_L, fun _ _ => Instr.sbc_A_mHL, fun _ _ => Instr.sbc_A_A]

/-- Row Ax of Table E-1 (R175), the illegal opcodes of R181 included. -/
def primaryRowA : List (Byte → Byte → Instr) :=
  [fun _ _ => Instr.and_B, fun _ _ => Instr.and_C, fun _ _ => Instr.and_D, fun _ _ => Instr.and_E]
  ++ [fun _ _ => Instr.and_H, fun _ _ => Instr.and_L, fun _ _ => Instr.and_mHL, fun _ _ => Instr.and_A]
  ++ [fun _ _ => Instr.xor_B, fun _ _ => Instr.xor_C, fun _ _ => Instr.xor_D, fun _ _ => Instr.xor_E]
  ++ [fun _ _ => Instr.xor_H, fun _ _ => Instr.xor_L, fun _ _ => Instr.xor_mHL, fun _ _ => Instr.xor_A]

/-- Row Bx of Table E-1 (R175), the illegal opcodes of R181 included. -/
def primaryRowB : List (Byte → Byte → Instr) :=
  [fun _ _ => Instr.or_B, fun _ _ => Instr.or_C, fun _ _ => Instr.or_D, fun _ _ => Instr.or_E]
  ++ [fun _ _ => Instr.or_H, fun _ _ => Instr.or_L, fun _ _ => Instr.or_mHL, fun _ _ => Instr.or_A]
  ++ [fun _ _ => Instr.cp_B, fun _ _ => Instr.cp_C, fun _ _ => Instr.cp_D, fun _ _ => Instr.cp_E]
  ++ [fun _ _ => Instr.cp_H, fun _ _ => Instr.cp_L, fun _ _ => Instr.cp_mHL, fun _ _ => Instr.cp_A]

/-- Row Cx of Table E-1 (R175), the illegal opcodes of R181 included. -/
def primaryRowC : List (Byte → Byte → Instr) :=
  [fun _ _ => Instr.ret_NZ, fun _ _ => Instr.pop_BC, fun lo hi => Instr.jp_NZ_a16 (mkWord hi lo), fun lo hi => Instr.jp_a16 (mkWord hi lo)]
  ++ [fun lo hi => Instr.call_NZ_a16 (mkWord hi lo), fun _ _ => Instr.push_BC, fun b _ => Instr.add_A_d8 b, fun _ _ => Instr.rst_0x00]
  ++ [fun _ _ => Instr.ret_Z, fun _ _ => Instr.ret, fun lo hi => Instr.jp_Z_a16 (mkWord hi lo), fun b _ => decodeExtended b]
  ++ [fun lo hi => Instr.call_Z_a16 (mkWord hi lo), fun lo hi => Instr.call_a16 (mkWord hi lo), fun b _ => Instr.adc_A_d8 b, fun _ _ => Instr.rst_0x08]

/-- Row Dx of Table E-1 (R175), the illegal opcodes of R181 included. -/
def primaryRowD : List (Byte → Byte → Instr) :=
  [fun _ _ => Instr.ret_NC, fun _ _ => Instr.pop_DE, fun lo hi => Instr.jp_NC_a16 (mkWord hi lo), fun _ _ => Instr.illegal_D3]
  ++ [fun lo hi => Instr.call_NC_a16 (mkWord hi lo), fun _ _ => Instr.push_DE, fun b _ => Instr.sub_d8 b, fun _ _ => Instr.rst_0x10]
  ++ [fun _ _ => Instr.ret_C, fun _ _ => Instr.reti, fun lo hi => Instr.jp_C_a16 (mkWord hi lo), fun _ _ => Instr.illegal_DB]
  ++ [fun lo hi => Instr.call_C_a16 (mkWord hi lo), fun _ _ => Instr.illegal_DD, fun b _ => Instr.sbc_A_d8 b, fun _ _ => Instr.rst_0x18]

/-- Row Ex of Table E-1 (R175), the illegal opcodes of R181 included. -/
def primaryRowE : List (Byte → Byte → Instr) :=
  [fun b _ => Instr.ldh_mA8_A b, fun _ _ => Instr.pop_HL, fun _ _ => Instr.ld_mC_A, fun _ _ => Instr.illegal_E3]
  ++ [fun _ _ => Instr.illegal_E4, fun _ _ => Instr.push_HL, fun b _ => Instr.and_d8 b, fun _ _ => Instr.rst_0x20]
  ++ [fun b _ => Instr.add_SP_e8 b, fun _ _ => Instr.jp_HL, fun lo hi => Instr.ld_mA16_A (mkWord hi lo), fun _ _ => Instr.illegal_EB]
  ++ [fun _ _ => Instr.illegal_EC, fun _ _ => Instr.illegal_ED, fun b _ => Instr.xor_d8 b, fun _ _ => Instr.rst_0x28]

/-- Row Fx of Table E-1 (R175), the illegal opcodes of R181 included. -/
def primaryRowF : List (Byte → Byte → Instr) :=
  [fun b _ => Instr.ldh_A_mA8 b, fun _ _ => Instr.pop_AF, fun _ _ => Instr.ld_A_mC, fun _ _ => Instr.di]
  ++ [fun _ _ => Instr.illegal_F4, fun _ _ => Instr.push_AF, fun b _ => Instr.or_d8 b, fun _ _ => Instr.rst_0x30]
  ++ [fun b _ => Instr.ld_HL_SPe8 b, fun _ _ => Instr.ld_SP_HL, fun lo hi => Instr.ld_A_mA16 (mkWord hi lo), fun _ _ => Instr.ei]
  ++ [fun _ _ => Instr.illegal_FC, fun _ _ => Instr.illegal_FD, fun b _ => Instr.cp_d8 b, fun _ _ => Instr.rst_0x38]

/-- The primary opcode map, Table E-1 (R175). -/
def primaryTable : List (List (Byte → Byte → Instr)) :=
  [primaryRow0, primaryRow1, primaryRow2, primaryRow3, primaryRow4, primaryRow5, primaryRow6, primaryRow7]
  ++ [primaryRow8, primaryRow9, primaryRowA, primaryRowB, primaryRowC, primaryRowD, primaryRowE, primaryRowF]

/-- `Decode()` (R185) on the opcode byte and the two bytes after it; a byte past the instruction's
length is not looked at. -/
def decodeInstr (op b1 b2 : Byte) : Instr := tableEntry primaryTable (fun _ _ => .nop) op b1 b2

/-! ## Lengths (R183) -/

/-- The opcodes of 3-byte instructions (R183). -/
def lengthThree : List Byte :=
  [0x01#8, 0x11#8, 0x21#8, 0x31#8, 0x08#8, 0xC2#8, 0xC3#8, 0xC4#8, 0xCA#8]
  ++ [0xCC#8, 0xCD#8, 0xD2#8, 0xD4#8, 0xDA#8, 0xDC#8, 0xEA#8, 0xFA#8]

/-- The opcodes of 2-byte instructions (R183), the prefix and STOP first. -/
def lengthTwo : List Byte :=
  [0xCB#8, 0x10#8, 0x06#8, 0x0E#8, 0x16#8, 0x1E#8, 0x26#8, 0x2E#8, 0x36#8, 0x3E#8]
  ++ [0x18#8, 0x20#8, 0x28#8, 0x30#8, 0x38#8, 0xC6#8, 0xCE#8, 0xD6#8, 0xDE#8, 0xE6#8]
  ++ [0xEE#8, 0xF6#8, 0xFE#8, 0xE0#8, 0xF0#8, 0xE8#8, 0xF8#8]

/-- The length in bytes, a function of the first byte alone (R170, R183). -/
def instrLength (op : Byte) : Nat :=
  if lengthThree.contains op = true then 3 else if lengthTwo.contains op = true then 2 else 1

/-! ## Decoding a byte list -/

/-- Why a byte list is no instruction. -/
inductive DecodeError where
  /-- The list is empty. -/
  | noByte
  /-- The list ends before the immediate bytes that the opcode asks for (R183). -/
  | truncated (op : Byte)
deriving DecidableEq, Repr

/-- The first instruction of a byte list and the bytes after it. -/
def decode : List Byte → Except DecodeError (Instr × List Byte)
  | [] => .error .noByte
  | op :: rest =>
    if rest.length < instrLength op - 1 then .error (.truncated op)
    else .ok (decodeInstr op (rest.getD 0 0#8) (rest.getD 1 0#8), rest.drop (instrLength op - 1))

/-! ## Encoding -/

/-- The bytes of an instruction in memory order (R171), written from the listing of R184. -/
def encode : Instr → List Byte
  | .nop => [0x00#8]
  | .ld_BC_d16 n => [0x01#8, loByte n, hiByte n]
  | .ld_mBC_A => [0x02#8]
  | .inc_BC => [0x03#8]
  | .inc_B => [0x04#8]
  | .dec_B => [0x05#8]
  | .ld_B_d8 n => [0x06#8, n]
  | .rlca => [0x07#8]
  | .ld_mA16_SP n => [0x08#8, loByte n, hiByte n]
  | .add_HL_BC => [0x09#8]
  | .ld_A_mBC => [0x0A#8]
  | .dec_BC => [0x0B#8]
  | .inc_C => [0x0C#8]
  | .dec_C => [0x0D#8]
  | .ld_C_d8 n => [0x0E#8, n]
  | .rrca => [0x0F#8]
  | .stop n => [0x10#8, n]
  | .ld_DE_d16 n => [0x11#8, loByte n, hiByte n]
  | .ld_mDE_A => [0x12#8]
  | .inc_DE => [0x13#8]
  | .inc_D => [0x14#8]
  | .dec_D => [0x15#8]
  | .ld_D_d8 n => [0x16#8, n]
  | .rla => [0x17#8]
  | .jr_e8 n => [0x18#8, n]
  | .add_HL_DE => [0x19#8]
  | .ld_A_mDE => [0x1A#8]
  | .dec_DE => [0x1B#8]
  | .inc_E => [0x1C#8]
  | .dec_E => [0x1D#8]
  | .ld_E_d8 n => [0x1E#8, n]
  | .rra => [0x1F#8]
  | .jr_NZ_e8 n => [0x20#8, n]
  | .ld_HL_d16 n => [0x21#8, loByte n, hiByte n]
  | .ld_mHLI_A => [0x22#8]
  | .inc_HL => [0x23#8]
  | .inc_H => [0x24#8]
  | .dec_H => [0x25#8]
  | .ld_H_d8 n => [0x26#8, n]
  | .daa => [0x27#8]
  | .jr_Z_e8 n => [0x28#8, n]
  | .add_HL_HL => [0x29#8]
  | .ld_A_mHLI => [0x2A#8]
  | .dec_HL => [0x2B#8]
  | .inc_L => [0x2C#8]
  | .dec_L => [0x2D#8]
  | .ld_L_d8 n => [0x2E#8, n]
  | .cpl => [0x2F#8]
  | .jr_NC_e8 n => [0x30#8, n]
  | .ld_SP_d16 n => [0x31#8, loByte n, hiByte n]
  | .ld_mHLD_A => [0x32#8]
  | .inc_SP => [0x33#8]
  | .inc_mHL => [0x34#8]
  | .dec_mHL => [0x35#8]
  | .ld_mHL_d8 n => [0x36#8, n]
  | .scf => [0x37#8]
  | .jr_C_e8 n => [0x38#8, n]
  | .add_HL_SP => [0x39#8]
  | .ld_A_mHLD => [0x3A#8]
  | .dec_SP => [0x3B#8]
  | .inc_A => [0x3C#8]
  | .dec_A => [0x3D#8]
  | .ld_A_d8 n => [0x3E#8, n]
  | .ccf => [0x3F#8]
  | .ld_B_B => [0x40#8]
  | .ld_B_C => [0x41#8]
  | .ld_B_D => [0x42#8]
  | .ld_B_E => [0x43#8]
  | .ld_B_H => [0x44#8]
  | .ld_B_L => [0x45#8]
  | .ld_B_mHL => [0x46#8]
  | .ld_B_A => [0x47#8]
  | .ld_C_B => [0x48#8]
  | .ld_C_C => [0x49#8]
  | .ld_C_D => [0x4A#8]
  | .ld_C_E => [0x4B#8]
  | .ld_C_H => [0x4C#8]
  | .ld_C_L => [0x4D#8]
  | .ld_C_mHL => [0x4E#8]
  | .ld_C_A => [0x4F#8]
  | .ld_D_B => [0x50#8]
  | .ld_D_C => [0x51#8]
  | .ld_D_D => [0x52#8]
  | .ld_D_E => [0x53#8]
  | .ld_D_H => [0x54#8]
  | .ld_D_L => [0x55#8]
  | .ld_D_mHL => [0x56#8]
  | .ld_D_A => [0x57#8]
  | .ld_E_B => [0x58#8]
  | .ld_E_C => [0x59#8]
  | .ld_E_D => [0x5A#8]
  | .ld_E_E => [0x5B#8]
  | .ld_E_H => [0x5C#8]
  | .ld_E_L => [0x5D#8]
  | .ld_E_mHL => [0x5E#8]
  | .ld_E_A => [0x5F#8]
  | .ld_H_B => [0x60#8]
  | .ld_H_C => [0x61#8]
  | .ld_H_D => [0x62#8]
  | .ld_H_E => [0x63#8]
  | .ld_H_H => [0x64#8]
  | .ld_H_L => [0x65#8]
  | .ld_H_mHL => [0x66#8]
  | .ld_H_A => [0x67#8]
  | .ld_L_B => [0x68#8]
  | .ld_L_C => [0x69#8]
  | .ld_L_D => [0x6A#8]
  | .ld_L_E => [0x6B#8]
  | .ld_L_H => [0x6C#8]
  | .ld_L_L => [0x6D#8]
  | .ld_L_mHL => [0x6E#8]
  | .ld_L_A => [0x6F#8]
  | .ld_mHL_B => [0x70#8]
  | .ld_mHL_C => [0x71#8]
  | .ld_mHL_D => [0x72#8]
  | .ld_mHL_E => [0x73#8]
  | .ld_mHL_H => [0x74#8]
  | .ld_mHL_L => [0x75#8]
  | .halt => [0x76#8]
  | .ld_mHL_A => [0x77#8]
  | .ld_A_B => [0x78#8]
  | .ld_A_C => [0x79#8]
  | .ld_A_D => [0x7A#8]
  | .ld_A_E => [0x7B#8]
  | .ld_A_H => [0x7C#8]
  | .ld_A_L => [0x7D#8]
  | .ld_A_mHL => [0x7E#8]
  | .ld_A_A => [0x7F#8]
  | .add_A_B => [0x80#8]
  | .add_A_C => [0x81#8]
  | .add_A_D => [0x82#8]
  | .add_A_E => [0x83#8]
  | .add_A_H => [0x84#8]
  | .add_A_L => [0x85#8]
  | .add_A_mHL => [0x86#8]
  | .add_A_A => [0x87#8]
  | .adc_A_B => [0x88#8]
  | .adc_A_C => [0x89#8]
  | .adc_A_D => [0x8A#8]
  | .adc_A_E => [0x8B#8]
  | .adc_A_H => [0x8C#8]
  | .adc_A_L => [0x8D#8]
  | .adc_A_mHL => [0x8E#8]
  | .adc_A_A => [0x8F#8]
  | .sub_B => [0x90#8]
  | .sub_C => [0x91#8]
  | .sub_D => [0x92#8]
  | .sub_E => [0x93#8]
  | .sub_H => [0x94#8]
  | .sub_L => [0x95#8]
  | .sub_mHL => [0x96#8]
  | .sub_A => [0x97#8]
  | .sbc_A_B => [0x98#8]
  | .sbc_A_C => [0x99#8]
  | .sbc_A_D => [0x9A#8]
  | .sbc_A_E => [0x9B#8]
  | .sbc_A_H => [0x9C#8]
  | .sbc_A_L => [0x9D#8]
  | .sbc_A_mHL => [0x9E#8]
  | .sbc_A_A => [0x9F#8]
  | .and_B => [0xA0#8]
  | .and_C => [0xA1#8]
  | .and_D => [0xA2#8]
  | .and_E => [0xA3#8]
  | .and_H => [0xA4#8]
  | .and_L => [0xA5#8]
  | .and_mHL => [0xA6#8]
  | .and_A => [0xA7#8]
  | .xor_B => [0xA8#8]
  | .xor_C => [0xA9#8]
  | .xor_D => [0xAA#8]
  | .xor_E => [0xAB#8]
  | .xor_H => [0xAC#8]
  | .xor_L => [0xAD#8]
  | .xor_mHL => [0xAE#8]
  | .xor_A => [0xAF#8]
  | .or_B => [0xB0#8]
  | .or_C => [0xB1#8]
  | .or_D => [0xB2#8]
  | .or_E => [0xB3#8]
  | .or_H => [0xB4#8]
  | .or_L => [0xB5#8]
  | .or_mHL => [0xB6#8]
  | .or_A => [0xB7#8]
  | .cp_B => [0xB8#8]
  | .cp_C => [0xB9#8]
  | .cp_D => [0xBA#8]
  | .cp_E => [0xBB#8]
  | .cp_H => [0xBC#8]
  | .cp_L => [0xBD#8]
  | .cp_mHL => [0xBE#8]
  | .cp_A => [0xBF#8]
  | .ret_NZ => [0xC0#8]
  | .pop_BC => [0xC1#8]
  | .jp_NZ_a16 n => [0xC2#8, loByte n, hiByte n]
  | .jp_a16 n => [0xC3#8, loByte n, hiByte n]
  | .call_NZ_a16 n => [0xC4#8, loByte n, hiByte n]
  | .push_BC => [0xC5#8]
  | .add_A_d8 n => [0xC6#8, n]
  | .rst_0x00 => [0xC7#8]
  | .ret_Z => [0xC8#8]
  | .ret => [0xC9#8]
  | .jp_Z_a16 n => [0xCA#8, loByte n, hiByte n]
  | .call_Z_a16 n => [0xCC#8, loByte n, hiByte n]
  | .call_a16 n => [0xCD#8, loByte n, hiByte n]
  | .adc_A_d8 n => [0xCE#8, n]
  | .rst_0x08 => [0xCF#8]
  | .ret_NC => [0xD0#8]
  | .pop_DE => [0xD1#8]
  | .jp_NC_a16 n => [0xD2#8, loByte n, hiByte n]
  | .call_NC_a16 n => [0xD4#8, loByte n, hiByte n]
  | .push_DE => [0xD5#8]
  | .sub_d8 n => [0xD6#8, n]
  | .rst_0x10 => [0xD7#8]
  | .ret_C => [0xD8#8]
  | .reti => [0xD9#8]
  | .jp_C_a16 n => [0xDA#8, loByte n, hiByte n]
  | .call_C_a16 n => [0xDC#8, loByte n, hiByte n]
  | .sbc_A_d8 n => [0xDE#8, n]
  | .rst_0x18 => [0xDF#8]
  | .ldh_mA8_A n => [0xE0#8, n]
  | .pop_HL => [0xE1#8]
  | .ld_mC_A => [0xE2#8]
  | .push_HL => [0xE5#8]
  | .and_d8 n => [0xE6#8, n]
  | .rst_0x20 => [0xE7#8]
  | .add_SP_e8 n => [0xE8#8, n]
  | .jp_HL => [0xE9#8]
  | .ld_mA16_A n => [0xEA#8, loByte n, hiByte n]
  | .xor_d8 n => [0xEE#8, n]
  | .rst_0x28 => [0xEF#8]
  | .ldh_A_mA8 n => [0xF0#8, n]
  | .pop_AF => [0xF1#8]
  | .ld_A_mC => [0xF2#8]
  | .di => [0xF3#8]
  | .push_AF => [0xF5#8]
  | .or_d8 n => [0xF6#8, n]
  | .rst_0x30 => [0xF7#8]
  | .ld_HL_SPe8 n => [0xF8#8, n]
  | .ld_SP_HL => [0xF9#8]
  | .ld_A_mA16 n => [0xFA#8, loByte n, hiByte n]
  | .ei => [0xFB#8]
  | .cp_d8 n => [0xFE#8, n]
  | .rst_0x38 => [0xFF#8]
  | .rlc_B => [0xCB#8, 0x00#8]
  | .rlc_C => [0xCB#8, 0x01#8]
  | .rlc_D => [0xCB#8, 0x02#8]
  | .rlc_E => [0xCB#8, 0x03#8]
  | .rlc_H => [0xCB#8, 0x04#8]
  | .rlc_L => [0xCB#8, 0x05#8]
  | .rlc_mHL => [0xCB#8, 0x06#8]
  | .rlc_A => [0xCB#8, 0x07#8]
  | .rrc_B => [0xCB#8, 0x08#8]
  | .rrc_C => [0xCB#8, 0x09#8]
  | .rrc_D => [0xCB#8, 0x0A#8]
  | .rrc_E => [0xCB#8, 0x0B#8]
  | .rrc_H => [0xCB#8, 0x0C#8]
  | .rrc_L => [0xCB#8, 0x0D#8]
  | .rrc_mHL => [0xCB#8, 0x0E#8]
  | .rrc_A => [0xCB#8, 0x0F#8]
  | .rl_B => [0xCB#8, 0x10#8]
  | .rl_C => [0xCB#8, 0x11#8]
  | .rl_D => [0xCB#8, 0x12#8]
  | .rl_E => [0xCB#8, 0x13#8]
  | .rl_H => [0xCB#8, 0x14#8]
  | .rl_L => [0xCB#8, 0x15#8]
  | .rl_mHL => [0xCB#8, 0x16#8]
  | .rl_A => [0xCB#8, 0x17#8]
  | .rr_B => [0xCB#8, 0x18#8]
  | .rr_C => [0xCB#8, 0x19#8]
  | .rr_D => [0xCB#8, 0x1A#8]
  | .rr_E => [0xCB#8, 0x1B#8]
  | .rr_H => [0xCB#8, 0x1C#8]
  | .rr_L => [0xCB#8, 0x1D#8]
  | .rr_mHL => [0xCB#8, 0x1E#8]
  | .rr_A => [0xCB#8, 0x1F#8]
  | .sla_B => [0xCB#8, 0x20#8]
  | .sla_C => [0xCB#8, 0x21#8]
  | .sla_D => [0xCB#8, 0x22#8]
  | .sla_E => [0xCB#8, 0x23#8]
  | .sla_H => [0xCB#8, 0x24#8]
  | .sla_L => [0xCB#8, 0x25#8]
  | .sla_mHL => [0xCB#8, 0x26#8]
  | .sla_A => [0xCB#8, 0x27#8]
  | .sra_B => [0xCB#8, 0x28#8]
  | .sra_C => [0xCB#8, 0x29#8]
  | .sra_D => [0xCB#8, 0x2A#8]
  | .sra_E => [0xCB#8, 0x2B#8]
  | .sra_H => [0xCB#8, 0x2C#8]
  | .sra_L => [0xCB#8, 0x2D#8]
  | .sra_mHL => [0xCB#8, 0x2E#8]
  | .sra_A => [0xCB#8, 0x2F#8]
  | .swap_B => [0xCB#8, 0x30#8]
  | .swap_C => [0xCB#8, 0x31#8]
  | .swap_D => [0xCB#8, 0x32#8]
  | .swap_E => [0xCB#8, 0x33#8]
  | .swap_H => [0xCB#8, 0x34#8]
  | .swap_L => [0xCB#8, 0x35#8]
  | .swap_mHL => [0xCB#8, 0x36#8]
  | .swap_A => [0xCB#8, 0x37#8]
  | .srl_B => [0xCB#8, 0x38#8]
  | .srl_C => [0xCB#8, 0x39#8]
  | .srl_D => [0xCB#8, 0x3A#8]
  | .srl_E => [0xCB#8, 0x3B#8]
  | .srl_H => [0xCB#8, 0x3C#8]
  | .srl_L => [0xCB#8, 0x3D#8]
  | .srl_mHL => [0xCB#8, 0x3E#8]
  | .srl_A => [0xCB#8, 0x3F#8]
  | .bit_0_B => [0xCB#8, 0x40#8]
  | .bit_0_C => [0xCB#8, 0x41#8]
  | .bit_0_D => [0xCB#8, 0x42#8]
  | .bit_0_E => [0xCB#8, 0x43#8]
  | .bit_0_H => [0xCB#8, 0x44#8]
  | .bit_0_L => [0xCB#8, 0x45#8]
  | .bit_0_mHL => [0xCB#8, 0x46#8]
  | .bit_0_A => [0xCB#8, 0x47#8]
  | .bit_1_B => [0xCB#8, 0x48#8]
  | .bit_1_C => [0xCB#8, 0x49#8]
  | .bit_1_D => [0xCB#8, 0x4A#8]
  | .bit_1_E => [0xCB#8, 0x4B#8]
  | .bit_1_H => [0xCB#8, 0x4C#8]
  | .bit_1_L => [0xCB#8, 0x4D#8]
  | .bit_1_mHL => [0xCB#8, 0x4E#8]
  | .bit_1_A => [0xCB#8, 0x4F#8]
  | .bit_2_B => [0xCB#8, 0x50#8]
  | .bit_2_C => [0xCB#8, 0x51#8]
  | .bit_2_D => [0xCB#8, 0x52#8]
  | .bit_2_E => [0xCB#8, 0x53#8]
  | .bit_2_H => [0xCB#8, 0x54#8]
  | .bit_2_L => [0xCB#8, 0x55#8]
  | .bit_2_mHL => [0xCB#8, 0x56#8]
  | .bit_2_A => [0xCB#8, 0x57#8]
  | .bit_3_B => [0xCB#8, 0x58#8]
  | .bit_3_C => [0xCB#8, 0x59#8]
  | .bit_3_D => [0xCB#8, 0x5A#8]
  | .bit_3_E => [0xCB#8, 0x5B#8]
  | .bit_3_H => [0xCB#8, 0x5C#8]
  | .bit_3_L => [0xCB#8, 0x5D#8]
  | .bit_3_mHL => [0xCB#8, 0x5E#8]
  | .bit_3_A => [0xCB#8, 0x5F#8]
  | .bit_4_B => [0xCB#8, 0x60#8]
  | .bit_4_C => [0xCB#8, 0x61#8]
  | .bit_4_D => [0xCB#8, 0x62#8]
  | .bit_4_E => [0xCB#8, 0x63#8]
  | .bit_4_H => [0xCB#8, 0x64#8]
  | .bit_4_L => [0xCB#8, 0x65#8]
  | .bit_4_mHL => [0xCB#8, 0x66#8]
  | .bit_4_A => [0xCB#8, 0x67#8]
  | .bit_5_B => [0xCB#8, 0x68#8]
  | .bit_5_C => [0xCB#8, 0x69#8]
  | .bit_5_D => [0xCB#8, 0x6A#8]
  | .bit_5_E => [0xCB#8, 0x6B#8]
  | .bit_5_H => [0xCB#8, 0x6C#8]
  | .bit_5_L => [0xCB#8, 0x6D#8]
  | .bit_5_mHL => [0xCB#8, 0x6E#8]
  | .bit_5_A => [0xCB#8, 0x6F#8]
  | .bit_6_B => [0xCB#8, 0x70#8]
  | .bit_6_C => [0xCB#8, 0x71#8]
  | .bit_6_D => [0xCB#8, 0x72#8]
  | .bit_6_E => [0xCB#8, 0x73#8]
  | .bit_6_H => [0xCB#8, 0x74#8]
  | .bit_6_L => [0xCB#8, 0x75#8]
  | .bit_6_mHL => [0xCB#8, 0x76#8]
  | .bit_6_A => [0xCB#8, 0x77#8]
  | .bit_7_B => [0xCB#8, 0x78#8]
  | .bit_7_C => [0xCB#8, 0x79#8]
  | .bit_7_D => [0xCB#8, 0x7A#8]
  | .bit_7_E => [0xCB#8, 0x7B#8]
  | .bit_7_H => [0xCB#8, 0x7C#8]
  | .bit_7_L => [0xCB#8, 0x7D#8]
  | .bit_7_mHL => [0xCB#8, 0x7E#8]
  | .bit_7_A => [0xCB#8, 0x7F#8]
  | .res_0_B => [0xCB#8, 0x80#8]
  | .res_0_C => [0xCB#8, 0x81#8]
  | .res_0_D => [0xCB#8, 0x82#8]
  | .res_0_E => [0xCB#8, 0x83#8]
  | .res_0_H => [0xCB#8, 0x84#8]
  | .res_0_L => [0xCB#8, 0x85#8]
  | .res_0_mHL => [0xCB#8, 0x86#8]
  | .res_0_A => [0xCB#8, 0x87#8]
  | .res_1_B => [0xCB#8, 0x88#8]
  | .res_1_C => [0xCB#8, 0x89#8]
  | .res_1_D => [0xCB#8, 0x8A#8]
  | .res_1_E => [0xCB#8, 0x8B#8]
  | .res_1_H => [0xCB#8, 0x8C#8]
  | .res_1_L => [0xCB#8, 0x8D#8]
  | .res_1_mHL => [0xCB#8, 0x8E#8]
  | .res_1_A => [0xCB#8, 0x8F#8]
  | .res_2_B => [0xCB#8, 0x90#8]
  | .res_2_C => [0xCB#8, 0x91#8]
  | .res_2_D => [0xCB#8, 0x92#8]
  | .res_2_E => [0xCB#8, 0x93#8]
  | .res_2_H => [0xCB#8, 0x94#8]
  | .res_2_L => [0xCB#8, 0x95#8]
  | .res_2_mHL => [0xCB#8, 0x96#8]
  | .res_2_A => [0xCB#8, 0x97#8]
  | .res_3_B => [0xCB#8, 0x98#8]
  | .res_3_C => [0xCB#8, 0x99#8]
  | .res_3_D => [0xCB#8, 0x9A#8]
  | .res_3_E => [0xCB#8, 0x9B#8]
  | .res_3_H => [0xCB#8, 0x9C#8]
  | .res_3_L => [0xCB#8, 0x9D#8]
  | .res_3_mHL => [0xCB#8, 0x9E#8]
  | .res_3_A => [0xCB#8, 0x9F#8]
  | .res_4_B => [0xCB#8, 0xA0#8]
  | .res_4_C => [0xCB#8, 0xA1#8]
  | .res_4_D => [0xCB#8, 0xA2#8]
  | .res_4_E => [0xCB#8, 0xA3#8]
  | .res_4_H => [0xCB#8, 0xA4#8]
  | .res_4_L => [0xCB#8, 0xA5#8]
  | .res_4_mHL => [0xCB#8, 0xA6#8]
  | .res_4_A => [0xCB#8, 0xA7#8]
  | .res_5_B => [0xCB#8, 0xA8#8]
  | .res_5_C => [0xCB#8, 0xA9#8]
  | .res_5_D => [0xCB#8, 0xAA#8]
  | .res_5_E => [0xCB#8, 0xAB#8]
  | .res_5_H => [0xCB#8, 0xAC#8]
  | .res_5_L => [0xCB#8, 0xAD#8]
  | .res_5_mHL => [0xCB#8, 0xAE#8]
  | .res_5_A => [0xCB#8, 0xAF#8]
  | .res_6_B => [0xCB#8, 0xB0#8]
  | .res_6_C => [0xCB#8, 0xB1#8]
  | .res_6_D => [0xCB#8, 0xB2#8]
  | .res_6_E => [0xCB#8, 0xB3#8]
  | .res_6_H => [0xCB#8, 0xB4#8]
  | .res_6_L => [0xCB#8, 0xB5#8]
  | .res_6_mHL => [0xCB#8, 0xB6#8]
  | .res_6_A => [0xCB#8, 0xB7#8]
  | .res_7_B => [0xCB#8, 0xB8#8]
  | .res_7_C => [0xCB#8, 0xB9#8]
  | .res_7_D => [0xCB#8, 0xBA#8]
  | .res_7_E => [0xCB#8, 0xBB#8]
  | .res_7_H => [0xCB#8, 0xBC#8]
  | .res_7_L => [0xCB#8, 0xBD#8]
  | .res_7_mHL => [0xCB#8, 0xBE#8]
  | .res_7_A => [0xCB#8, 0xBF#8]
  | .set_0_B => [0xCB#8, 0xC0#8]
  | .set_0_C => [0xCB#8, 0xC1#8]
  | .set_0_D => [0xCB#8, 0xC2#8]
  | .set_0_E => [0xCB#8, 0xC3#8]
  | .set_0_H => [0xCB#8, 0xC4#8]
  | .set_0_L => [0xCB#8, 0xC5#8]
  | .set_0_mHL => [0xCB#8, 0xC6#8]
  | .set_0_A => [0xCB#8, 0xC7#8]
  | .set_1_B => [0xCB#8, 0xC8#8]
  | .set_1_C => [0xCB#8, 0xC9#8]
  | .set_1_D => [0xCB#8, 0xCA#8]
  | .set_1_E => [0xCB#8, 0xCB#8]
  | .set_1_H => [0xCB#8, 0xCC#8]
  | .set_1_L => [0xCB#8, 0xCD#8]
  | .set_1_mHL => [0xCB#8, 0xCE#8]
  | .set_1_A => [0xCB#8, 0xCF#8]
  | .set_2_B => [0xCB#8, 0xD0#8]
  | .set_2_C => [0xCB#8, 0xD1#8]
  | .set_2_D => [0xCB#8, 0xD2#8]
  | .set_2_E => [0xCB#8, 0xD3#8]
  | .set_2_H => [0xCB#8, 0xD4#8]
  | .set_2_L => [0xCB#8, 0xD5#8]
  | .set_2_mHL => [0xCB#8, 0xD6#8]
  | .set_2_A => [0xCB#8, 0xD7#8]
  | .set_3_B => [0xCB#8, 0xD8#8]
  | .set_3_C => [0xCB#8, 0xD9#8]
  | .set_3_D => [0xCB#8, 0xDA#8]
  | .set_3_E => [0xCB#8, 0xDB#8]
  | .set_3_H => [0xCB#8, 0xDC#8]
  | .set_3_L => [0xCB#8, 0xDD#8]
  | .set_3_mHL => [0xCB#8, 0xDE#8]
  | .set_3_A => [0xCB#8, 0xDF#8]
  | .set_4_B => [0xCB#8, 0xE0#8]
  | .set_4_C => [0xCB#8, 0xE1#8]
  | .set_4_D => [0xCB#8, 0xE2#8]
  | .set_4_E => [0xCB#8, 0xE3#8]
  | .set_4_H => [0xCB#8, 0xE4#8]
  | .set_4_L => [0xCB#8, 0xE5#8]
  | .set_4_mHL => [0xCB#8, 0xE6#8]
  | .set_4_A => [0xCB#8, 0xE7#8]
  | .set_5_B => [0xCB#8, 0xE8#8]
  | .set_5_C => [0xCB#8, 0xE9#8]
  | .set_5_D => [0xCB#8, 0xEA#8]
  | .set_5_E => [0xCB#8, 0xEB#8]
  | .set_5_H => [0xCB#8, 0xEC#8]
  | .set_5_L => [0xCB#8, 0xED#8]
  | .set_5_mHL => [0xCB#8, 0xEE#8]
  | .set_5_A => [0xCB#8, 0xEF#8]
  | .set_6_B => [0xCB#8, 0xF0#8]
  | .set_6_C => [0xCB#8, 0xF1#8]
  | .set_6_D => [0xCB#8, 0xF2#8]
  | .set_6_E => [0xCB#8, 0xF3#8]
  | .set_6_H => [0xCB#8, 0xF4#8]
  | .set_6_L => [0xCB#8, 0xF5#8]
  | .set_6_mHL => [0xCB#8, 0xF6#8]
  | .set_6_A => [0xCB#8, 0xF7#8]
  | .set_7_B => [0xCB#8, 0xF8#8]
  | .set_7_C => [0xCB#8, 0xF9#8]
  | .set_7_D => [0xCB#8, 0xFA#8]
  | .set_7_E => [0xCB#8, 0xFB#8]
  | .set_7_H => [0xCB#8, 0xFC#8]
  | .set_7_L => [0xCB#8, 0xFD#8]
  | .set_7_mHL => [0xCB#8, 0xFE#8]
  | .set_7_A => [0xCB#8, 0xFF#8]
  | .illegal_D3 => [0xD3#8]
  | .illegal_DB => [0xDB#8]
  | .illegal_DD => [0xDD#8]
  | .illegal_E3 => [0xE3#8]
  | .illegal_E4 => [0xE4#8]
  | .illegal_EB => [0xEB#8]
  | .illegal_EC => [0xEC#8]
  | .illegal_ED => [0xED#8]
  | .illegal_F4 => [0xF4#8]
  | .illegal_FC => [0xFC#8]
  | .illegal_FD => [0xFD#8]

/-! ## Words numbered as the opcode table numbers them -/

/-- The three bytes, in memory order, of the instruction whose bits are `w` in the numbering of
spec/opcode_table.json: the first byte is the low one, but for an extended row, whose table word
0xCBxx holds the prefix in bits 15 to 8 (log 6). Bits above `nbits` are 0. -/
def tableBytes (nbits w : Nat) : List Byte :=
  let v := w % 2 ^ nbits
  if nbits = 16 ∧ v / 256 = 0xCB then [0xCB#8, BitVec.ofNat 8 v, 0#8]
  else [BitVec.ofNat 8 v, BitVec.ofNat 8 (v / 256), BitVec.ofNat 8 (v / 65536)]

/-- The instruction the decoder reads from a table word. -/
def decodeTableWord (nbits w : Nat) : Option Instr :=
  match decode (tableBytes nbits w) with
  | .ok (i, _) => some i
  | .error _ => none

end Sys2Proof
end

