-- ==== Sys2Proof/Config.lean ====
section
/-! DEFINITION. The parameters of R9, each fixed for one run, and the plain data they are made of.
The spec leaves no value undefined (93_implementation_defined.md, section 1), so the model has no
opaque free value: what the spec leaves open is a parameter here or a host input of State. -/

namespace Sys2Proof

/-- One RGB triple of the palette (R545). -/
structure Rgb where
  r : Byte
  g : Byte
  b : Byte
deriving DecidableEq, Repr

/-- The four triples for shades 0 (lightest) to 3 (darkest) (R9 PALETTE, R545). -/
structure Palette where
  c0 : Rgb
  c1 : Rgb
  c2 : Rgb
  c3 : Rgb
deriving DecidableEq, Repr

/-- Bytes by address or offset, in the canonical form of `Memory.wf` (Machine/Store.lean):
addresses strictly rising, no entry equal to `unlistedByte`. -/
abbrev Memory := List Host.Cell

/-- What an address with no entry reads as. DESIGN CHOICE (log 2): POWER_ON_FILL taken as zero, as
R80 allows. -/
def unlistedByte : Byte := 0#8

/-- A cartridge image (R67 `rom`): its length in bytes and its contents by offset. -/
structure Image where
  len : Nat
  cells : Memory
deriving DecidableEq, Repr

/-- The five registers of the MBC3 clock as bytes (R68); the bits outside the fields of R147 are 0 (`ClockWf`). -/
structure Rtc where
  s : Byte
  m : Byte
  h : Byte
  dl : Byte
  dh : Byte
deriving DecidableEq, Repr

/-- The clock at zero, its value without save data (R602). -/
def Rtc.zero : Rtc := ⟨0#8, 0#8, 0#8, 0#8, 0#8⟩

/-- The MBC3 clock as the save data holds it: the five registers and the wall-clock anchor (R592, D28). DESIGN CHOICE
(log 19): the layout is in no source; this is a value beside the RAM dump. -/
structure SavedClock where
  regs : Rtc
  anchor : Nat
deriving DecidableEq, Repr

/-- BOOT_MODE (R9, R10). -/
inductive BootMode where
  /-- The source's configuration: a 256-byte boot image overlays 0x0000 to 0x00FF. -/
  | bootRom (image : Memory)
  /-- The spec's convenience mode: no overlay, the post-boot state of R81. -/
  | skipBoot
deriving DecidableEq, Repr

/-- POWER_ON_FILL (R9, R80): what the source leaves open after power-on. -/
structure PowerOnFill where
  a : Byte
  f : Byte
  b : Byte
  c : Byte
  d : Byte
  e : Byte
  h : Byte
  l : Byte
  sp : Word
  /-- VRAM, WRAM, OAM and HRAM, by bus address. -/
  mem : Memory
  /-- External RAM, by offset, when there is no save. -/
  eram : Memory
deriving DecidableEq, Repr

/-- The parameters of R9. -/
structure Params where
  /-- CART_ROM, `none` when the file is unreadable (R604). -/
  cartRom : Option Image
  /-- SAVE_RAM: the dump of R592, or absent. -/
  saveRam : Option (List Byte)
  /-- The MBC3 clock of the save data (R592, R602), or absent. -/
  saveClock : Option SavedClock
  bootMode : BootMode
  fill : PowerOnFill
  /-- HALT_BUG (R322). -/
  haltBug : Bool
  palette : Palette
deriving DecidableEq, Repr

/-- POWER_ON_FILL all zero, "to match the reimplementation's zero-initialised process globals"
(R80). DESIGN CHOICE (log 2). -/
def PowerOnFill.zero : PowerOnFill :=
  ⟨0#8, 0#8, 0#8, 0#8, 0#8, 0#8, 0#8, 0#8, 0#16, [], []⟩

/-- Four greys, shade 0 lightest to 3 darkest. DESIGN CHOICE (log 3): no source gives the RGB
values (R545). -/
def Palette.greys : Palette :=
  ⟨⟨0xFF#8, 0xFF#8, 0xFF#8⟩, ⟨0xAA#8, 0xAA#8, 0xAA#8⟩, ⟨0x55#8, 0x55#8, 0x55#8⟩, ⟨0x00#8, 0x00#8, 0x00#8⟩⟩

/-- The smallest image that R604 accepts with nothing in it: 32 KB of zeros, no controller, and the
checksum 0xE7 that R604 computes for a zero header. DESIGN CHOICE (log 4): CART_ROM is a parameter;
this one holds no program. -/
def Image.blank : Image := ⟨0x8000, [(0x14D, 0xE7#8)]⟩

/-- The parameters State.reset stands for. DESIGN CHOICE (log 1): BootRom, the source's
configuration (R10), with an empty boot image. -/
def Params.default : Params :=
  { cartRom := some Image.blank
    saveRam := none
    saveClock := none
    bootMode := .bootRom []
    fill := PowerOnFill.zero
    haltBug := true
    palette := Palette.greys }

end Sys2Proof
end

