-- ==== Sys2Proof/Machine/State.lean ====
section
/-! DEFINITION. The state of the machine as plain data: every piece of state of 10_state.md, the
reset value of each (R601), the host's inputs (R9, R590) and what the last step gave the host
(R591). -/

namespace Sys2Proof.Machine

/-- Why a run ended (R431); `FatalReason.code` is its cause code. -/
inductive FatalReason where
  /-- One of the eleven illegal opcodes was fetched from `addr` (R327). -/
  | illegalOpcode (op : Byte) (addr : Word)
deriving DecidableEq, Repr

/-- `run_state` (R28). -/
inductive RunState where
  | running
  | halted
  | stopped
  | faulted (reason : FatalReason)
deriving DecidableEq, Repr

/-- The CPU registers (R20, R24, R25). A pair is not separate storage (R21). -/
structure Regs where
  a : Byte
  /-- Bits 7 to 4 are Z N H Cy, bits 3 to 0 always 0 (R22). -/
  f : Byte
  b : Byte
  c : Byte
  d : Byte
  e : Byte
  h : Byte
  l : Byte
  sp : Word
  pc : Word
deriving DecidableEq, Repr

/-- DIV, TIMA, TMA, TAC (R36 to R39) and the timer's accumulators (R70). -/
structure Timer where
  div : Byte
  tima : Byte
  tma : Byte
  /-- The three stored bits of TAC. -/
  tac : BitVec 3
  divAcc : Nat
  timaAcc : Nat
deriving DecidableEq, Repr

/-- SB, SC (R34, R35) and the serial link's internal state (R71). -/
structure Serial where
  sb : Byte
  /-- The stored bits 7 and 0 of SC. -/
  sc : Byte
  acc : Nat
  bitCount : Nat
deriving DecidableEq, Repr

/-- The display registers (R58 to R65), the display's internal state (R72) and palette (R75). -/
structure Lcd where
  lcdc : Byte
  stat : Byte
  scy : Byte
  scx : Byte
  ly : Byte
  lyc : Byte
  dma : Byte
  bgp : Byte
  obp0 : Byte
  obp1 : Byte
  wy : Byte
  wx : Byte
  lineCycles : Nat
  prevCoinc : Bool
  /-- `bg_code[0..159]` of the line rasterized last. -/
  bgCode : List (BitVec 2)
  /-- `frame_buffer[144][160]`, one shade a pixel. -/
  frameBuffer : List (List (BitVec 2))
  frameReady : Bool
  paletteActive : Palette
  swapPending : Option Palette
deriving DecidableEq, Repr

/-- What every sound channel has (R73): the enabled flag, the frequency countdown, the length
counter. The countdown is an integer, as R571 to R573 write it (log 12). -/
structure ChannelCore where
  en : Bool
  freqTimer : Int
  length : Nat
deriving DecidableEq, Repr

/-- The envelope of channels 1, 2 and 4 (R73). -/
structure Envelope where
  volume : Nat
  timer : Nat
deriving DecidableEq, Repr

/-- A square channel, 1 or 2: NRx1 to NRx4 (R41 to R45) and its internal state (R73). -/
structure Square where
  core : ChannelCore
  env : Envelope
  dutyPos : Nat
  nrx1 : Byte
  nrx2 : Byte
  nrx3 : Byte
  nrx4 : Byte
deriving DecidableEq, Repr

/-- Channel 1's sweep: NR10 (R40) and its internal state (R73). -/
structure Sweep where
  nr10 : Byte
  shadow : Nat
  timer : Nat
  en : Bool
deriving DecidableEq, Repr

/-- Channel 3, the wave channel: NR30 to NR34 (R46 to R49) and its internal state (R73). -/
structure Wave where
  core : ChannelCore
  wavePos : Nat
  nr30 : Byte
  nr31 : Byte
  nr32 : Byte
  nr33 : Byte
  nr34 : Byte
deriving DecidableEq, Repr

/-- Channel 4, the noise channel: NR41 to NR44 (R50 to R53) and its internal state (R73). -/
structure Noise where
  core : ChannelCore
  env : Envelope
  lfsr : BitVec 15
  nr41 : Byte
  nr42 : Byte
  nr43 : Byte
  nr44 : Byte
deriving DecidableEq, Repr

/-- The sound controller: NR50 to NR52 (R54 to R56), the channels and the shared state (R73). -/
structure Sound where
  /-- NR52 bit 7. -/
  master : Bool
  nr50 : Byte
  nr51 : Byte
  sweep : Sweep
  ch1 : Square
  ch2 : Square
  ch3 : Wave
  ch4 : Noise
  fsAcc : Nat
  fsPhase : Nat
  sampleAcc : Nat
deriving DecidableEq, Repr

/-- `mbc_type` (R68). -/
inductive MbcType where
  | none
  | mbc1
  | mbc2
  | mbc3
deriving DecidableEq, Repr

/-- Load-time state that nothing changes while the block runs (R82). -/
structure Cart where
  rom : Image
  /-- `boot_image`, by offset 0 to 255. -/
  bootImage : Memory
  mbcType : MbcType
  romBanks : Nat
  ramBanks : Nat
deriving DecidableEq, Repr

/-- Bank-controller state (R68). `romBank` is MBC2's 4-bit and MBC3's 7-bit `rom_bank`. -/
structure Mbc where
  ramEnable : Bool
  bank1 : BitVec 5
  bank2 : BitVec 2
  mode : BitVec 1
  romBank : BitVec 7
  ramSel : Byte
  latchPrev : Byte
  rtcLive : Rtc
  rtcLatched : Rtc
  /-- `rtc_anchor`, host wall-clock seconds. -/
  rtcAnchor : Nat
deriving DecidableEq, Repr

/-- The two active-low nibbles of the input collaborator (R33): direction nibble bit 3 Down, 2 Up,
1 Left, 0 Right; action nibble bit 3 Start, 2 Select, 1 B, 0 A. -/
structure Buttons where
  dirs : BitVec 4
  acts : BitVec 4
deriving DecidableEq, Repr

/-- What the serial peer is at one serial tick (R470, R473). -/
inductive PeerAnswer where
  | disconnected
  /-- Connected: an unsolicited inbound byte or none, and the byte it returns for SB. -/
  | connected (inbound : Option Byte) (reply : Byte)
deriving DecidableEq, Repr

/-- A host oracle (R9, R17) as plain data: the answer at the next read point, and the answers at
the read points after it. When the list is used up the last answer stays (log 5). -/
structure Oracle (α : Type) where
  now : α
  later : List α
deriving DecidableEq, Repr

/-- The host's inputs (R9, R590). The model's own fields (log 5): statements hold for every value. -/
structure HostIn where
  buttons : Oracle Buttons
  rtcNow : Oracle Nat
  serialPeer : Oracle PeerAnswer
  paletteSwap : Oracle (Option Palette)
deriving DecidableEq, Repr

/-- One stereo pair of R575, exact: the real value is the field divided by 480 (log 13). -/
structure StereoSample where
  left480 : Nat
  right480 : Nat
deriving DecidableEq, Repr

/-- What the last step gave the host beside the frame (R591): the sample pairs, oldest first (R576),
and the bytes sent to the serial peer, oldest first (R470). -/
structure StepOut where
  samples : List StereoSample
  serialSent : List Byte
deriving DecidableEq, Repr

/-- The whole state of the block (10_state.md). -/
structure State where
  regs : Regs
  /-- Interrupt master enable (R26). -/
  ime : Bool
  /-- The delayed-enable counter, 0 to 2 (R27). -/
  eiDelay : Nat
  runState : RunState
  haltBugPending : Bool
  /-- IE, all eight bits stored (R30). -/
  ie : Byte
  /-- IF, the five pending bits (R31). -/
  iflag : BitVec 5
  /-- P1's stored bits 5 and 4 (R33). -/
  p1Sel : BitVec 2
  /-- The input lines as last sampled (R74). -/
  joyPrev : BitVec 4
  timer : Timer
  serial : Serial
  lcd : Lcd
  sound : Sound
  /-- VRAM, WRAM, OAM, wave RAM and HRAM by bus address (R67). -/
  mem : Memory
  /-- External RAM by offset, or MBC2's 512 cells (R67). -/
  eram : Memory
  cart : Cart
  mbc : Mbc
  bootOverlay : Bool
  /-- HALT_BUG (R9), fixed for the run. -/
  haltBug : Bool
  host : HostIn
  out : StepOut
  /-- The cycles the last step returned (R401); 0 for a step that ended in the fatal state. -/
  cycles : Nat
  /-- The address the current instruction's opcode was fetched from (R400 `addr`). -/
  instrAddr : Word
deriving DecidableEq, Repr

/-- Why a step stops. -/
inductive Fault where
  /-- Raised by `step` in the terminal state of R430: "every later Step() returns Faulted without
  changing state". Safe: it is the spec's own outcome. -/
  | faulted (reason : FatalReason)
deriving DecidableEq, Repr

/-- Why the model gives an instruction no meaning. -/
inductive Refusal where
  /-- Raised by `exec`'s arm of an instruction not modelled yet. Safe: nothing can be proved of it. -/
  | notModelled (mnemonic : String)
deriving DecidableEq, Repr

/-- What a meaning answers. -/
abbrev Result := Host.Outcome State Fault Refusal

/-- A square channel with every register and counter 0 (R601). -/
def Square.zero : Square :=
  { core := ⟨false, 0, 0⟩, env := ⟨0, 0⟩, dutyPos := 0
    nrx1 := 0#8, nrx2 := 0#8, nrx3 := 0#8, nrx4 := 0#8 }

/-- The sound controller with every register and counter 0 (R601). -/
def Sound.zero : Sound :=
  { master := false, nr50 := 0#8, nr51 := 0#8
    sweep := { nr10 := 0#8, shadow := 0, timer := 0, en := false }
    ch1 := Square.zero
    ch2 := Square.zero
    ch3 := { core := ⟨false, 0, 0⟩, wavePos := 0
             nr30 := 0#8, nr31 := 0#8, nr32 := 0#8, nr33 := 0#8, nr34 := 0#8 }
    ch4 := { core := ⟨false, 0, 0⟩, env := ⟨0, 0⟩, lfsr := 0#15
             nr41 := 0#8, nr42 := 0#8, nr43 := 0#8, nr44 := 0#8 }
    fsAcc := 0, fsPhase := 0, sampleAcc := 0 }

/-- The display with every register and counter 0 (R601), delivering through `p`. -/
def Lcd.zero (p : Palette) : Lcd :=
  { lcdc := 0#8, stat := 0#8, scy := 0#8, scx := 0#8, ly := 0#8, lyc := 0#8, dma := 0#8
    bgp := 0#8, obp0 := 0#8, obp1 := 0#8, wy := 0#8, wx := 0#8
    lineCycles := 0, prevCoinc := false
    bgCode := List.replicate 160 0#2
    frameBuffer := List.replicate 144 (List.replicate 160 0#2)
    frameReady := false
    paletteActive := p, swapPending := none }

/-- The bank controller at reset (R80), its clock at `live` and anchored at `now` (R602). -/
def Mbc.initial (live : Rtc) (now : Nat) : Mbc :=
  { ramEnable := false, bank1 := 1#5, bank2 := 0#2, mode := 0#1, romBank := 1#7, ramSel := 0#8
    latchPrev := 0xFF#8, rtcLive := live, rtcLatched := live, rtcAnchor := now }

/-- No button pressed, time 0, no peer, no palette request. DESIGN CHOICE (log 5): the inputs are
the host's; no statement rests on these values. -/
def HostIn.quiet : HostIn :=
  { buttons := ⟨⟨0xF#4, 0xF#4⟩, []⟩, rtcNow := ⟨0, []⟩
    serialPeer := ⟨.disconnected, []⟩, paletteSwap := ⟨none, []⟩ }

/-- The machine right after power-on (R80, R601 column `BootRom`) with the parameters
`Params.default`: PC at 0x0000 under the boot overlay, POWER_ON_FILL zero (log 2), an empty boot
image and a blank cartridge (logs 1 and 4). -/
def State.reset : State :=
  { regs := { a := 0#8, f := 0#8, b := 0#8, c := 0#8, d := 0#8, e := 0#8, h := 0#8, l := 0#8
              sp := 0#16, pc := 0x0000#16 }
    ime := false, eiDelay := 0, runState := .running, haltBugPending := false
    ie := 0#8, iflag := 0#5, p1Sel := 0#2, joyPrev := 0xF#4
    timer := { div := 0#8, tima := 0#8, tma := 0#8, tac := 0#3, divAcc := 0, timaAcc := 0 }
    serial := { sb := 0#8, sc := 0#8, acc := 0, bitCount := 0 }
    lcd := Lcd.zero Palette.greys
    sound := Sound.zero
    mem := [], eram := []
    cart := { rom := Image.blank, bootImage := [], mbcType := .none, romBanks := 2, ramBanks := 0 }
    mbc := Mbc.initial Rtc.zero 0
    bootOverlay := true
    haltBug := true
    host := HostIn.quiet
    out := { samples := [], serialSent := [] }
    cycles := 0, instrAddr := 0#16 }

end Sys2Proof.Machine
end

