-- ==== Sys2Proof/Machine/Store.lean ====
section
/-! DEFINITION. Reading and writing a `Memory`, its canonical form, and drawing from a host oracle. -/

namespace Sys2Proof

/-- The byte at `a`; an address with no entry reads as `unlistedByte`. -/
def Memory.read : Memory → Nat → Byte
  | [], _ => unlistedByte
  | (k, w) :: m, a => if k = a then w else Memory.read m a

/-- `m` with the byte `v` at `a`, in canonical form. -/
def Memory.write : Memory → Nat → Byte → Memory
  | [], a, v => if v = unlistedByte then [] else [(a, v)]
  | (k, w) :: m, a, v =>
    if a < k then
      if v = unlistedByte then (k, w) :: m else (a, v) :: (k, w) :: m
    else if a = k then
      if v = unlistedByte then m else (k, v) :: m
    else (k, w) :: Memory.write m a v

/-- The canonical form: addresses strictly rising, no entry equal to what an unlisted address
reads as. Equal contents are then equal lists. -/
abbrev Memory.wf (m : Memory) : Prop :=
  m.Pairwise (fun x y => x.1 < y.1) ∧ ∀ x ∈ m, x.2 ≠ unlistedByte

/-- The canonical memory that holds `bytes` from address `base` on. -/
def Memory.ofBytes : Nat → List Byte → Memory
  | _, [] => []
  | base, v :: vs =>
    if v = unlistedByte then Memory.ofBytes (base + 1) vs else (base, v) :: Memory.ofBytes (base + 1) vs

namespace Machine

/-- The oracle after one answer has been taken: the next answer in line, or the same one again
when none is left (log 5). -/
def Oracle.draw {α : Type} (o : Oracle α) : Oracle α :=
  match o.later with
  | [] => o
  | x :: xs => ⟨x, xs⟩

/-- The state after BUTTONS has been read once (R481). -/
def drawButtons (s : State) : State :=
  { s with host := { s.host with buttons := Oracle.draw s.host.buttons } }

/-- The state after RTC_NOW has been read once (R148). -/
def drawRtcNow (s : State) : State :=
  { s with host := { s.host with rtcNow := Oracle.draw s.host.rtcNow } }

/-- The state after SERIAL_PEER has answered once (R470). -/
def drawSerialPeer (s : State) : State :=
  { s with host := { s.host with serialPeer := Oracle.draw s.host.serialPeer } }

/-- The state after PALETTE_SWAP has answered once (R545). -/
def drawPaletteSwap (s : State) : State :=
  { s with host := { s.host with paletteSwap := Oracle.draw s.host.paletteSwap } }

end Machine
end Sys2Proof
end

