-- ==== Sys2Proof/Machine/Cartridge.lean ====
section
/-! DEFINITION. The bank controllers of 20_memory.md section 6: ROM and external RAM reads, control
writes, the MBC3 clock. -/

namespace Sys2Proof.Machine

/-- The image offset of byte `off` of ROM bank `bank`, bank numbers wrapping (R131, R151). -/
def romIndex (c : Cart) (bank off : Nat) : Nat := (bank % c.romBanks) * 0x4000 + off

/-- `RomByte(bank, off)` (R131): 0xFF at or past the end of the image. -/
def romByte (c : Cart) (bank off : Nat) : Byte :=
  if romIndex c bank off < c.rom.len then Memory.read c.rom.cells (romIndex c bank off) else 0xFF#8

/-- The bank seen at 0x0000 to 0x3FFF (R131, R133, R140, R145). -/
def lowRomBank (c : Cart) (m : Mbc) : Nat :=
  match c.mbcType with
  | .mbc1 => if m.mode = 1#1 then m.bank2.toNat * 32 else 0
  | .none => 0
  | .mbc2 => 0
  | .mbc3 => 0

/-- The bank seen at 0x4000 to 0x7FFF (R131, R133, R140, R145); `(bank2 << 5) | bank1` is a sum, as
`bank1` has five bits. -/
def highRomBank (c : Cart) (m : Mbc) : Nat :=
  match c.mbcType with
  | .none => 1
  | .mbc1 => m.bank2.toNat * 32 + m.bank1.toNat
  | .mbc2 => m.romBank.toNat
  | .mbc3 => m.romBank.toNat

/-- The ROM bank that address `a` (below 0x8000) selects. -/
def romBankAt (c : Cart) (m : Mbc) (a : Nat) : Nat :=
  if a < 0x4000 then lowRomBank c m else highRomBank c m

/-- `CartRomRead(a)` for `a` at most 0x7FFF (R131 to R145). -/
def cartRomRead (c : Cart) (m : Mbc) (a : Nat) : Byte := romByte c (romBankAt c m a) (a % 0x4000)

/-- The cell of `eram` that the external RAM window reaches at offset `off`, or `none` when it
reaches no RAM (R131, R134, R140, R146, R152). -/
def eramIndex (c : Cart) (m : Mbc) (off : Nat) : Option Nat :=
  match c.mbcType with
  | .none => none
  | .mbc1 =>
    if m.ramEnable = true ∧ c.ramBanks ≠ 0 then
      some (((if m.mode = 1#1 then m.bank2.toNat else 0) % c.ramBanks) * 0x2000 + off)
    else none
  | .mbc2 => if m.ramEnable = true then some (off % 512) else none
  | .mbc3 =>
    if m.ramEnable = true ∧ m.ramSel.toNat ≤ 3 ∧ c.ramBanks ≠ 0 then
      some ((m.ramSel.toNat % c.ramBanks) * 0x2000 + off)
    else none

/-- The clock register that `ram_sel` selects (R146). -/
inductive RtcReg where
  | s
  | m
  | h
  | dl
  | dh
deriving DecidableEq, Repr

/-- The clock register the external RAM window reaches, if any (R146). -/
def rtcSelected (c : Cart) (m : Mbc) : Option RtcReg :=
  if c.mbcType = .mbc3 ∧ m.ramEnable = true then
    match m.ramSel.toNat with
    | 0x08 => some .s
    | 0x09 => some .m
    | 0x0A => some .h
    | 0x0B => some .dl
    | 0x0C => some .dh
    | _ => none
  else none

/-- The value of a clock register. -/
def rtcGet (t : Rtc) : RtcReg → Byte
  | .s => t.s
  | .m => t.m
  | .h => t.h
  | .dl => t.dl
  | .dh => t.dh

/-- A clock register written with the masked value (R146). -/
def rtcSet (t : Rtc) (v : Byte) : RtcReg → Rtc
  | .s => { t with s := v &&& 0x3F#8 }
  | .m => { t with m := v &&& 0x3F#8 }
  | .h => { t with h := v &&& 0x1F#8 }
  | .dl => { t with dl := v }
  | .dh => { t with dh := v &&& 0xC1#8 }

/-- The bits that R147 gives each clock register: S and M six, H five, DL eight, of DH bits 7, 6 and 0. -/
def rtcMasked (t : Rtc) : Rtc :=
  { s := t.s &&& 0x3F#8, m := t.m &&& 0x3F#8, h := t.h &&& 0x1F#8, dl := t.dl, dh := t.dh &&& 0xC1#8 }

/-- The day counter ticks (R148): from 511 to 0 it sets the carry DH bit 7. -/
def rtcDayTick (t : Rtc) : Rtc :=
  if t.dl = 0xFF#8 then
    if t.dh.getLsbD 0 = true then { t with dl := 0#8, dh := (t.dh &&& 0xFE#8) ||| 0x80#8 }
    else { t with dl := 0#8, dh := t.dh ||| 0x01#8 }
  else { t with dl := t.dl + 1#8 }

/-- The hours tick (R148): from 23 to 0 with a day tick, else wrapping at 32. -/
def rtcHourTick (t : Rtc) : Rtc :=
  if t.h = 23#8 then rtcDayTick { t with h := 0#8 } else { t with h := (t.h + 1#8) &&& 0x1F#8 }

/-- The minutes tick (R148): from 59 to 0 with an hour tick, else wrapping at 64. -/
def rtcMinuteTick (t : Rtc) : Rtc :=
  if t.m = 59#8 then rtcHourTick { t with m := 0#8 } else { t with m := (t.m + 1#8) &&& 0x3F#8 }

/-- One second tick (R148): from 59 to 0 with a minute tick, else wrapping at 64. -/
def rtcSecondTick (t : Rtc) : Rtc :=
  if t.s = 59#8 then rtcMinuteTick { t with s := 0#8 } else { t with s := (t.s + 1#8) &&& 0x3F#8 }

/-- `n` second ticks. -/
def rtcTicks : Nat → Rtc → Rtc
  | 0, t => t
  | n + 1, t => rtcTicks n (rtcSecondTick t)

/-- `RtcUpdate()` (R148): RTC_NOW is read once; the halt bit DH[6] stops the ticks. -/
def rtcUpdate (s : State) : State :=
  let now := s.host.rtcNow.now
  let n := now - s.mbc.rtcAnchor
  let live := if s.mbc.rtcLive.dh.getLsbD 6 = true then s.mbc.rtcLive else rtcTicks n s.mbc.rtcLive
  { drawRtcNow s with mbc := { s.mbc with rtcAnchor := now, rtcLive := live } }

/-- `CartRamRead(a)` at offset `off` of the window (R131, R134, R140, R146). -/
def cartRamRead (s : State) (off : Nat) : Byte :=
  match eramIndex s.cart s.mbc off with
  | some i =>
    if s.cart.mbcType = .mbc2 then 0xF0#8 ||| Memory.read s.eram i else Memory.read s.eram i
  | none =>
    match rtcSelected s.cart s.mbc with
    | some r => rtcGet s.mbc.rtcLatched r
    | none => 0xFF#8

/-- `CartRamWrite(a, v)` at offset `off` of the window (R131, R134, R140, R146). -/
def cartRamWrite (s : State) (off : Nat) (v : Byte) : State :=
  match eramIndex s.cart s.mbc off with
  | some i =>
    { s with eram := Memory.write s.eram i (if s.cart.mbcType = .mbc2 then v &&& 0x0F#8 else v) }
  | none =>
    match rtcSelected s.cart s.mbc with
    | some r =>
      let t := rtcUpdate s
      { t with mbc := { t.mbc with rtcLive := rtcSet t.mbc.rtcLive v r } }
    | none => s

/-- The `ram_enable` value of a control write (R132, R140, R145). -/
def enablesRam (v : Byte) : Bool := v &&& 0x0F#8 == 0x0A#8

/-- MBC1's control writes (R132). -/
def mbc1Control (m : Mbc) (a : Nat) (v : Byte) : Mbc :=
  if a < 0x2000 then { m with ramEnable := enablesRam v }
  else if a < 0x4000 then
    { m with bank1 := if v.extractLsb' 0 5 = 0#5 then 1#5 else v.extractLsb' 0 5 }
  else if a < 0x6000 then { m with bank2 := v.extractLsb' 0 2 }
  else { m with mode := v.extractLsb' 0 1 }

/-- MBC2's control writes, decoded by address bit 8 (R140). -/
def mbc2Control (m : Mbc) (a : Nat) (v : Byte) : Mbc :=
  if a < 0x4000 then
    if a.testBit 8 = true then
      { m with romBank := if v.extractLsb' 0 4 = 0#4 then 1#7 else (v.extractLsb' 0 4).zeroExtend 7 }
    else { m with ramEnable := enablesRam v }
  else m

/-- MBC3's control writes (R145); the latch reads RTC_NOW. -/
def mbc3Control (s : State) (a : Nat) (v : Byte) : State :=
  if a < 0x2000 then { s with mbc := { s.mbc with ramEnable := enablesRam v } }
  else if a < 0x4000 then
    { s with mbc := { s.mbc with
        romBank := if v.extractLsb' 0 7 = 0#7 then 1#7 else v.extractLsb' 0 7 } }
  else if a < 0x6000 then { s with mbc := { s.mbc with ramSel := v } }
  else if s.mbc.latchPrev = 0x00#8 ∧ v = 0x01#8 then
    let t := rtcUpdate s
    { t with mbc := { t.mbc with rtcLatched := t.mbc.rtcLive, latchPrev := v } }
  else { s with mbc := { s.mbc with latchPrev := v } }

/-- `CartControlWrite(a, v)` for `a` at most 0x7FFF (R130); without a controller every control
write is ignored (R131). -/
def cartControlWrite (s : State) (a : Nat) (v : Byte) : State :=
  match s.cart.mbcType with
  | .none => s
  | .mbc1 => { s with mbc := mbc1Control s.mbc a v }
  | .mbc2 => { s with mbc := mbc2Control s.mbc a v }
  | .mbc3 => mbc3Control s a v

end Sys2Proof.Machine
end

