-- ==== Sys2Proof/Machine/SoundUnit.lean ====
section
/-! DEFINITION. The sound controller (60_exceptions.md section 10): register write effects, trigger,
length, envelope, sweep, frame sequencer, channel ticks, mixer. -/

namespace Sys2Proof.Machine

/-- The 11-bit frequency value `NRx4[2:0]:NRx3` (R571, R572). -/
def freqValue (nrx4 nrx3 : Byte) : Nat := (nrx4 &&& 0x07#8).toNat * 256 + nrx3.toNat

/-- `Period(c)` of a square channel (R571). -/
def squarePeriod (q : Square) : Int := (2048 - (freqValue q.nrx4 q.nrx3 : Int)) * 4

/-- `Period(3)` (R572). -/
def wavePeriod (w : Wave) : Int := (2048 - (freqValue w.nr34 w.nr33 : Int)) * 2

/-- `Period(4)` (R573): the divisor table shifted left by NR43[7:4]. -/
def noisePeriod (n : Noise) : Int :=
  ((([8, 16, 32, 48, 64, 80, 96, 112].getD (n.nr43 &&& 0x07#8).toNat 0) * 2 ^ (n.nr43 >>> 4).toNat : Nat) : Int)

/-- The DAC of a channel with an envelope register (R560). -/
def envDacOn (nrx2 : Byte) : Bool := !(nrx2 &&& 0xF8#8 == 0#8)

/-- Channel 3's DAC (R560). -/
def waveDacOn (w : Wave) : Bool := w.nr30.getLsbD 7

/-- Channel 1's DAC and channel 2's (R560). -/
def squareDacOn (q : Square) : Bool := envDacOn q.nrx2

/-- The sweep period NR10[6:4] (R40). -/
def sweepPeriod (w : Sweep) : Nat := ((w.nr10 >>> 4) &&& 0x07#8).toNat

/-- The sweep shift NR10[2:0] (R40). -/
def sweepShift (w : Sweep) : Nat := (w.nr10 &&& 0x07#8).toNat

/-- The period a sweep timer is reloaded with: 0 is treated as 8 (R565, R570). -/
def sweepReload (w : Sweep) : Nat := if sweepPeriod w ≠ 0 then sweepPeriod w else 8

/-- The frequency `SweepCalc()` computes (R569). -/
def sweepTarget (w : Sweep) : Nat :=
  if w.nr10.getLsbD 3 = true then w.shadow - w.shadow / 2 ^ sweepShift w
  else w.shadow + w.shadow / 2 ^ sweepShift w

/-- `SweepCalc()`'s effect (R569): an overflow past 2047 disables channel 1. -/
def sweepCheck (d : Sound) : Sound :=
  if sweepTarget d.sweep > 2047 then
    { d with ch1 := { d.ch1 with core := { d.ch1.core with en := false } } }
  else d

/-- The length part of a trigger (R565): enabled, and an expired length reloaded with `full`. -/
def triggerCore (c : ChannelCore) (full : Nat) (period : Int) : ChannelCore :=
  { en := true, freqTimer := period, length := if c.length = 0 then full else c.length }

/-- The envelope part of a trigger (R565). -/
def triggerEnv (nrx2 : Byte) : Envelope :=
  { volume := (nrx2 >>> 4).toNat, timer := (nrx2 &&& 0x07#8).toNat }

/-- A square channel triggered (R565); `duty_pos` is kept. -/
def triggerSquare (q : Square) : Square :=
  { q with core := triggerCore q.core 64 (squarePeriod q), env := triggerEnv q.nrx2 }

/-- `Trigger(1)` (R565), with the sweep. -/
def triggerCh1 (d : Sound) : Sound :=
  let q := triggerSquare d.ch1
  let w := { d.sweep with
    shadow := freqValue q.nrx4 q.nrx3
    timer := sweepReload d.sweep
    en := sweepPeriod d.sweep ≠ 0 ∨ sweepShift d.sweep ≠ 0 }
  let d' := { d with ch1 := q, sweep := w }
  if sweepShift w ≠ 0 then sweepCheck d' else d'

/-- `Trigger(3)` (R565). -/
def triggerWave (w : Wave) : Wave :=
  { w with core := triggerCore w.core 256 (wavePeriod w), wavePos := 0 }

/-- `Trigger(4)` (R565). -/
def triggerNoise (n : Noise) : Noise :=
  { n with core := triggerCore n.core 64 (noisePeriod n), env := triggerEnv n.nr42, lfsr := 0x7FFF#15 }

/-- A write to NRx1 of a square channel (R41, R564). -/
def writeSquare1 (q : Square) (v : Byte) : Square :=
  { q with nrx1 := v, core := { q.core with length := 64 - (v &&& 0x3F#8).toNat } }

/-- A write to NRx2 of a square channel (R42, R560). -/
def writeSquare2 (q : Square) (v : Byte) : Square :=
  { q with nrx2 := v, core := { q.core with en := q.core.en && envDacOn v } }

/-- The stored bits of NRx4: the length enable and the high frequency bits (R44, log 11). -/
def storedNrx4 (v : Byte) : Byte := v &&& 0x47#8

/-- A write to NR14 (R44, R562). -/
def writeNr14 (d : Sound) (v : Byte) : Sound :=
  let d' := { d with ch1 := { d.ch1 with nrx4 := storedNrx4 v } }
  if v.getLsbD 7 = true ∧ squareDacOn d'.ch1 = true then triggerCh1 d' else d'

/-- A write to NR24 (R45, R562). -/
def writeSquare4 (q : Square) (v : Byte) : Square :=
  let q' := { q with nrx4 := storedNrx4 v }
  if v.getLsbD 7 = true ∧ squareDacOn q' = true then triggerSquare q' else q'

/-- A write to NR30 (R46, R560). -/
def writeNr30 (w : Wave) (v : Byte) : Wave :=
  { w with nr30 := v &&& 0x80#8, core := { w.core with en := w.core.en && v.getLsbD 7 } }

/-- A write to NR31 (R47, R564). -/
def writeNr31 (w : Wave) (v : Byte) : Wave :=
  { w with nr31 := v, core := { w.core with length := 256 - v.toNat } }

/-- A write to NR34 (R49, R562). -/
def writeNr34 (w : Wave) (v : Byte) : Wave :=
  let w' := { w with nr34 := storedNrx4 v }
  if v.getLsbD 7 = true ∧ waveDacOn w' = true then triggerWave w' else w'

/-- A write to NR41 (R50, R564). -/
def writeNr41 (n : Noise) (v : Byte) : Noise :=
  { n with nr41 := v &&& 0x3F#8, core := { n.core with length := 64 - (v &&& 0x3F#8).toNat } }

/-- A write to NR42 (R51, R560). -/
def writeNr42 (n : Noise) (v : Byte) : Noise :=
  { n with nr42 := v, core := { n.core with en := n.core.en && envDacOn v } }

/-- A write to NR44 (R53, R562). -/
def writeNr44 (n : Noise) (v : Byte) : Noise :=
  let n' := { n with nr44 := v &&& 0x40#8 }
  if v.getLsbD 7 = true ∧ envDacOn n'.nr42 = true then triggerNoise n' else n'

/-- A square channel with its registers cleared and disabled, its counters kept (R563). -/
def clearSquare (q : Square) : Square :=
  { q with nrx1 := 0#8, nrx2 := 0#8, nrx3 := 0#8, nrx4 := 0#8, core := { q.core with en := false } }

/-- The master enable turned off (R563): 0xFF10 to 0xFF25 cleared, every channel disabled. -/
def soundOff (d : Sound) : Sound :=
  { d with
    master := false, nr50 := 0#8, nr51 := 0#8
    sweep := { d.sweep with nr10 := 0#8 }
    ch1 := clearSquare d.ch1
    ch2 := clearSquare d.ch2
    ch3 := { d.ch3 with
      nr30 := 0#8, nr31 := 0#8, nr32 := 0#8, nr33 := 0#8, nr34 := 0#8
      core := { d.ch3.core with en := false } }
    ch4 := { d.ch4 with
      nr41 := 0#8, nr42 := 0#8, nr43 := 0#8, nr44 := 0#8
      core := { d.ch4.core with en := false } } }

/-- A write to NR52 (R563). -/
def writeNr52 (d : Sound) (v : Byte) : Sound :=
  if v.getLsbD 7 = true then
    if d.master = true then d else { d with master := true, fsAcc := 0, fsPhase := 0 }
  else if d.master = true then soundOff d else d

/-- NR52's read value (R56). -/
def readNr52 (d : Sound) : Byte :=
  0x70#8 ||| (if d.master = true then 0x80#8 else 0#8) ||| (if d.ch4.core.en = true then 0x08#8 else 0#8)
    ||| (if d.ch3.core.en = true then 0x04#8 else 0#8) ||| (if d.ch2.core.en = true then 0x02#8 else 0#8)
    ||| (if d.ch1.core.en = true then 0x01#8 else 0#8)

/-- The length clock of one channel (R567): gated by NRx4[6]; at zero the channel is disabled. -/
def lengthClock (c : ChannelCore) (nrx4 : Byte) : ChannelCore :=
  if nrx4.getLsbD 6 = true ∧ c.length > 0 then
    { c with length := c.length - 1, en := c.en && !(c.length - 1 == 0) }
  else c

/-- The length clock of every channel (R566, R567). -/
def clockLengths (d : Sound) : Sound :=
  { d with
    ch1 := { d.ch1 with core := lengthClock d.ch1.core d.ch1.nrx4 }
    ch2 := { d.ch2 with core := lengthClock d.ch2.core d.ch2.nrx4 }
    ch3 := { d.ch3 with core := lengthClock d.ch3.core d.ch3.nr34 }
    ch4 := { d.ch4 with core := lengthClock d.ch4.core d.ch4.nr44 } }

/-- The volume after one envelope step in the direction of NRx2[3], within 0 to 15 (R568). -/
def stepVolume (vol : Nat) (nrx2 : Byte) : Nat :=
  if nrx2.getLsbD 3 = true then (if vol < 15 then vol + 1 else vol)
  else (if vol > 0 then vol - 1 else vol)

/-- The envelope clock (R568). -/
def envelopeClock (e : Envelope) (en : Bool) (nrx2 : Byte) : Envelope :=
  let period := (nrx2 &&& 0x07#8).toNat
  if en = true ∧ period ≠ 0 then
    let t := if e.timer > 0 then e.timer - 1 else e.timer
    if t = 0 then { volume := stepVolume e.volume nrx2, timer := period } else { e with timer := t }
  else e

/-- The envelope clock of channels 1, 2 and 4 (R566, R568). -/
def clockEnvelopes (d : Sound) : Sound :=
  { d with
    ch1 := { d.ch1 with env := envelopeClock d.ch1.env d.ch1.core.en d.ch1.nrx2 }
    ch2 := { d.ch2 with env := envelopeClock d.ch2.env d.ch2.core.en d.ch2.nrx2 }
    ch4 := { d.ch4 with env := envelopeClock d.ch4.env d.ch4.core.en d.ch4.nr42 } }

/-- The new frequency written back to the shadow and to NR13, NR14[2:0] (R570). -/
def sweepWriteBack (d : Sound) (new : Nat) : Sound :=
  { d with
    sweep := { d.sweep with shadow := new }
    ch1 := { d.ch1 with
      nrx3 := BitVec.ofNat 8 new
      nrx4 := (d.ch1.nrx4 &&& 0xF8#8) ||| (BitVec.ofNat 8 (new / 256) &&& 0x07#8) } }

/-- The sweep clock's frequency update, at an expired timer (R570). -/
def sweepUpdate (d : Sound) : Sound :=
  if d.sweep.en = true ∧ sweepPeriod d.sweep ≠ 0 then
    let new := sweepTarget d.sweep
    let d' := sweepCheck d
    if new ≤ 2047 ∧ sweepShift d.sweep ≠ 0 then sweepCheck (sweepWriteBack d' new) else d'
  else d

/-- The sweep clock (R570), for an enabled channel 1. -/
def clockSweep (d : Sound) : Sound :=
  if d.ch1.core.en = true then
    let t := if d.sweep.timer > 0 then d.sweep.timer - 1 else d.sweep.timer
    if t = 0 then sweepUpdate { d with sweep := { d.sweep with timer := sweepReload d.sweep } }
    else { d with sweep := { d.sweep with timer := t } }
  else d

/-- `FrameSequencer(p)` (R566). -/
def frameSequencer (d : Sound) (p : Nat) : Sound :=
  let d1 := if p % 2 = 0 then clockLengths d else d
  let d2 := if p = 2 ∨ p = 6 then clockSweep d1 else d1
  if p = 7 then clockEnvelopes d2 else d2

/-- `ChannelTick(c)` of an enabled square channel (R561, R571). -/
def tickSquare (q : Square) : Square :=
  if q.core.en = true then
    if q.core.freqTimer - 1 = 0 then
      { q with core := { q.core with freqTimer := squarePeriod q }, dutyPos := (q.dutyPos + 1) % 8 }
    else { q with core := { q.core with freqTimer := q.core.freqTimer - 1 } }
  else q

/-- `ChannelTick(3)` when enabled (R561, R572). -/
def tickWave (w : Wave) : Wave :=
  if w.core.en = true then
    if w.core.freqTimer - 1 = 0 then
      { w with core := { w.core with freqTimer := wavePeriod w }, wavePos := (w.wavePos + 1) % 32 }
    else { w with core := { w.core with freqTimer := w.core.freqTimer - 1 } }
  else w

/-- The shift register after one shift, in 15-bit or, with NR43[3], 7-bit mode (R573). -/
def shiftLfsr (lfsr : BitVec 15) (nr43 : Byte) : BitVec 15 :=
  let x := (lfsr ^^^ (lfsr >>> 1)) &&& 1#15
  let l := (lfsr >>> 1) ||| (x <<< 14)
  if nr43.getLsbD 3 = true then (l &&& ~~~0x40#15) ||| (x <<< 6) else l

/-- `ChannelTick(4)` when enabled (R561, R573). -/
def tickNoise (n : Noise) : Noise :=
  if n.core.en = true then
    if n.core.freqTimer - 1 = 0 then
      { n with core := { n.core with freqTimer := noisePeriod n }, lfsr := shiftLfsr n.lfsr n.nr43 }
    else { n with core := { n.core with freqTimer := n.core.freqTimer - 1 } }
  else n

/-- The duty patterns, `duty_pos` 0 to 7 from the left (R571). -/
def dutyTable : List (List Nat) :=
  [[0, 0, 0, 0, 0, 0, 0, 1], [1, 0, 0, 0, 0, 0, 0, 1], [1, 0, 0, 0, 0, 1, 1, 1], [0, 1, 1, 1, 1, 1, 1, 0]]

/-- `out(c)` of a square channel, or 0 when it is disabled or its DAC is off (R571, R574). -/
def squareOut (q : Square) : Nat :=
  if q.core.en = true ∧ squareDacOn q = true then
    ((dutyTable.getD (q.nrx1 >>> 6).toNat []).getD q.dutyPos 0) * q.env.volume
  else 0

/-- The current wave sample, nibble `wave_pos` of wave RAM (R57, R572). -/
def waveSample (mem : Memory) (w : Wave) : Nat :=
  let v := (Memory.read mem (0xFF30 + w.wavePos / 2)).toNat
  if w.wavePos % 2 = 0 then v / 16 else v % 16

/-- `out(3)`, or 0 when it is disabled or its DAC is off (R572, R574). -/
def waveOut (mem : Memory) (w : Wave) : Nat :=
  if w.core.en = true ∧ waveDacOn w = true then
    waveSample mem w / 2 ^ ([4, 0, 1, 2].getD ((w.nr32 >>> 5) &&& 0x03#8).toNat 0)
  else 0

/-- `out(4)`, or 0 when it is disabled or its DAC is off (R573, R574). -/
def noiseOut (n : Noise) : Nat :=
  if n.core.en = true ∧ envDacOn n.nr42 = true then (if n.lfsr.getLsbD 0 = true then 0 else n.env.volume)
  else 0

/-- The sum of the four outputs whose panning bit, from bit `lo` of NR51 on, is 1 (R575). -/
def panned (mem : Memory) (d : Sound) (lo : Nat) : Nat :=
  (if d.nr51.getLsbD lo = true then squareOut d.ch1 else 0)
    + (if d.nr51.getLsbD (lo + 1) = true then squareOut d.ch2 else 0)
    + (if d.nr51.getLsbD (lo + 2) = true then waveOut mem d.ch3 else 0)
    + (if d.nr51.getLsbD (lo + 3) = true then noiseOut d.ch4 else 0)

/-- `Mix()` (R574, R575), each side in units of 1/480 = 1/(15 · 4 · 8) (log 13). -/
def mix (mem : Memory) (d : Sound) : StereoSample :=
  if d.master = true then
    { left480 := panned mem d 4 * (((d.nr50 >>> 4) &&& 0x07#8).toNat + 1)
      right480 := panned mem d 0 * ((d.nr50 &&& 0x07#8).toNat + 1) }
  else { left480 := 0, right480 := 0 }

/-- The part of a T-cycle that the master enable gates (R561): frame sequencer, then channels. -/
def soundClock (d : Sound) : Sound :=
  if d.master = true then
    let d1 :=
      if d.fsAcc + 1 = 8192 then
        { frameSequencer d d.fsPhase with fsAcc := 0, fsPhase := (d.fsPhase + 1) % 8 }
      else { d with fsAcc := d.fsAcc + 1 }
    { d1 with ch1 := tickSquare d1.ch1, ch2 := tickSquare d1.ch2, ch3 := tickWave d1.ch3, ch4 := tickNoise d1.ch4 }
  else d

/-- One T-cycle of `SoundStep` (R561, R576), with the sample it emits if it emits one. -/
def soundTick (mem : Memory) (d : Sound) : Sound × List StereoSample :=
  let d1 := soundClock d
  if d1.sampleAcc + 44100 ≥ 4194304 then
    let d2 := { d1 with sampleAcc := d1.sampleAcc + 44100 - 4194304 }
    (d2, [mix mem d2])
  else ({ d1 with sampleAcc := d1.sampleAcc + 44100 }, [])

/-- `n` T-cycles, with the samples emitted, oldest first. -/
def soundTicks (mem : Memory) : Nat → Sound → Sound × List StereoSample
  | 0, d => (d, [])
  | n + 1, d =>
    let (d1, out1) := soundTick mem d
    let (d2, out2) := soundTicks mem n d1
    (d2, out1 ++ out2)

end Sys2Proof.Machine
end

