-- ==== Sys2Proof/Machine/Io.lean ====
section
/-! DEFINITION. The I/O registers by name and address (R16), and the value a bus read of each
returns (R31, R33 to R66). -/

namespace Sys2Proof.Machine

/-- The memory-mapped registers of 0xFF00 to 0xFF7F (R16), wave RAM apart. -/
inductive IoReg where
  | p1 | sb | sc | div | tima | tma | tac | iflag
  | nr10 | nr11 | nr12 | nr13 | nr14
  | nr21 | nr22 | nr23 | nr24
  | nr30 | nr31 | nr32 | nr33 | nr34
  | nr41 | nr42 | nr43 | nr44
  | nr50 | nr51 | nr52
  | lcdc | stat | scy | scx | ly | lyc | dma | bgp | obp0 | obp1 | wy | wx
  | boot
deriving DecidableEq, Repr

/-- The register addresses of R16. -/
def ioMap : List (Nat × IoReg) :=
  [(0xFF00, IoReg.p1), (0xFF01, IoReg.sb), (0xFF02, IoReg.sc), (0xFF04, IoReg.div), (0xFF05, IoReg.tima), (0xFF06, IoReg.tma),
   (0xFF07, IoReg.tac), (0xFF0F, IoReg.iflag)]
  ++ [(0xFF10, IoReg.nr10), (0xFF11, IoReg.nr11), (0xFF12, IoReg.nr12), (0xFF13, IoReg.nr13), (0xFF14, IoReg.nr14)]
  ++ [(0xFF16, IoReg.nr21), (0xFF17, IoReg.nr22), (0xFF18, IoReg.nr23), (0xFF19, IoReg.nr24)]
  ++ [(0xFF1A, IoReg.nr30), (0xFF1B, IoReg.nr31), (0xFF1C, IoReg.nr32), (0xFF1D, IoReg.nr33), (0xFF1E, IoReg.nr34)]
  ++ [(0xFF20, IoReg.nr41), (0xFF21, IoReg.nr42), (0xFF22, IoReg.nr43), (0xFF23, IoReg.nr44)]
  ++ [(0xFF24, IoReg.nr50), (0xFF25, IoReg.nr51), (0xFF26, IoReg.nr52)]
  ++ [(0xFF40, IoReg.lcdc), (0xFF41, IoReg.stat), (0xFF42, IoReg.scy), (0xFF43, IoReg.scx), (0xFF44, IoReg.ly), (0xFF45, IoReg.lyc),
      (0xFF46, IoReg.dma), (0xFF47, IoReg.bgp), (0xFF48, IoReg.obp0), (0xFF49, IoReg.obp1), (0xFF4A, IoReg.wy), (0xFF4B, IoReg.wx)]
  ++ [(0xFF50, IoReg.boot)]

/-- The register at an I/O address, or `none` (wave RAM and the unmapped addresses of R66). -/
def ioRegAt (a : Nat) : Option IoReg := ioMap.lookup a

/-- Whether `a` is in wave RAM (R57). -/
def isWaveRam (a : Nat) : Bool := 0xFF30 ≤ a && a ≤ 0xFF3F

/-- The four input lines of P1, active low, for the groups that P1 selects (R33). -/
def inputLines (s : State) : BitVec 4 :=
  (if s.p1Sel.getLsbD 0 = true then 0xF#4 else s.host.buttons.now.dirs)
    &&& (if s.p1Sel.getLsbD 1 = true then 0xF#4 else s.host.buttons.now.acts)

/-- P1's read value `0xC0 | sel | lines` (R33). -/
def readP1 (s : State) : Byte := 3#2 ++ s.p1Sel ++ inputLines s

/-- The value a bus read of a register returns: the stored bits with the fixed mask of its rule. -/
def regRead (s : State) : IoReg → Byte
  | .p1 => readP1 s
  | .sb => s.serial.sb
  | .sc => 0x7E#8 ||| (s.serial.sc &&& 0x81#8)
  | .div => s.timer.div
  | .tima => s.timer.tima
  | .tma => s.timer.tma
  | .tac => 0x1F#5 ++ s.timer.tac
  | .iflag => 7#3 ++ s.iflag
  | .nr10 => 0x80#8 ||| s.sound.sweep.nr10
  | .nr11 => 0x3F#8 ||| s.sound.ch1.nrx1
  | .nr12 => s.sound.ch1.nrx2
  | .nr13 => 0xFF#8
  | .nr14 => 0xBF#8 ||| s.sound.ch1.nrx4
  | .nr21 => 0x3F#8 ||| s.sound.ch2.nrx1
  | .nr22 => s.sound.ch2.nrx2
  | .nr23 => 0xFF#8
  | .nr24 => 0xBF#8 ||| s.sound.ch2.nrx4
  | .nr30 => 0x7F#8 ||| s.sound.ch3.nr30
  | .nr31 => 0xFF#8
  | .nr32 => 0x9F#8 ||| s.sound.ch3.nr32
  | .nr33 => 0xFF#8
  | .nr34 => 0xBF#8 ||| s.sound.ch3.nr34
  | .nr41 => 0xFF#8
  | .nr42 => s.sound.ch4.nr42
  | .nr43 => s.sound.ch4.nr43
  | .nr44 => 0xBF#8 ||| s.sound.ch4.nr44
  | .nr50 => s.sound.nr50
  | .nr51 => s.sound.nr51
  | .nr52 => readNr52 s.sound
  | .lcdc => s.lcd.lcdc
  | .stat => 0x80#8 ||| s.lcd.stat
  | .scy => s.lcd.scy
  | .scx => s.lcd.scx
  | .ly => s.lcd.ly
  | .lyc => s.lcd.lyc
  | .dma => s.lcd.dma
  | .bgp => s.lcd.bgp
  | .obp0 => s.lcd.obp0
  | .obp1 => s.lcd.obp1
  | .wy => s.lcd.wy
  | .wx => s.lcd.wx
  | .boot => 0xFF#8

/-- `IoRead(a)` for `a` in 0xFF00 to 0xFF7F (R110): an unmapped address reads 0xFF (R66). -/
def ioRead (s : State) (a : Nat) : Byte :=
  match ioRegAt a with
  | some r => regRead s r
  | none => if isWaveRam a = true then Memory.read s.mem a else 0xFF#8

/-- Whether a register is behind the sound master gate, 0xFF10 to 0xFF25 (R116). -/
def IoReg.soundGated : IoReg → Bool
  | .nr10 | .nr11 | .nr12 | .nr13 | .nr14 => true
  | .nr21 | .nr22 | .nr23 | .nr24 => true
  | .nr30 | .nr31 | .nr32 | .nr33 | .nr34 => true
  | .nr41 | .nr42 | .nr43 | .nr44 => true
  | .nr50 | .nr51 => true
  | _ => false

/-- The state with another sound controller. -/
def withSound (s : State) (d : Sound) : State := { s with sound := d }

/-- The state with another display controller. -/
def withLcd (s : State) (d : Lcd) : State := { s with lcd := d }

/-- A write to a sound register, after the gate (R40 to R56, R562): the stored bits and the effects
of R563 to R565. Other registers are left to `regWrite`. -/
def soundRegWrite (d : Sound) (v : Byte) : IoReg → Sound
  | .nr10 => { d with sweep := { d.sweep with nr10 := v &&& 0x7F#8 } }
  | .nr11 => { d with ch1 := writeSquare1 d.ch1 v }
  | .nr12 => { d with ch1 := writeSquare2 d.ch1 v }
  | .nr13 => { d with ch1 := { d.ch1 with nrx3 := v } }
  | .nr14 => writeNr14 d v
  | .nr21 => { d with ch2 := writeSquare1 d.ch2 v }
  | .nr22 => { d with ch2 := writeSquare2 d.ch2 v }
  | .nr23 => { d with ch2 := { d.ch2 with nrx3 := v } }
  | .nr24 => { d with ch2 := writeSquare4 d.ch2 v }
  | .nr30 => { d with ch3 := writeNr30 d.ch3 v }
  | .nr31 => { d with ch3 := writeNr31 d.ch3 v }
  | .nr32 => { d with ch3 := { d.ch3 with nr32 := v &&& 0x60#8 } }
  | .nr33 => { d with ch3 := { d.ch3 with nr33 := v } }
  | .nr34 => { d with ch3 := writeNr34 d.ch3 v }
  | .nr41 => { d with ch4 := writeNr41 d.ch4 v }
  | .nr42 => { d with ch4 := writeNr42 d.ch4 v }
  | .nr43 => { d with ch4 := { d.ch4 with nr43 := v } }
  | .nr44 => { d with ch4 := writeNr44 d.ch4 v }
  | .nr50 => { d with nr50 := v }
  | .nr51 => { d with nr51 := v }
  | .nr52 => writeNr52 d v
  | _ => d

end Sys2Proof.Machine
end

