-- ==== Sys2Proof/Machine/Ops.lean ====
section
/-! DEFINITION. The named operations: the CPU bus (R110, R111), the OAM DMA (R125), register writes,
interrupt requests and selection, the stack primitives (R220, R221), instruction fetch (R405),
taking an interrupt (R420), returning from one (R310), the fatal state (R430). -/

namespace Sys2Proof.Machine

/-! ## Registers -/

/-- HL (R21). -/
def getHL (s : State) : Word := mkWord s.regs.h s.regs.l

/-- The state with HL written. -/
def setHL (s : State) (w : Word) : State := { s with regs := { s.regs with h := hiByte w, l := loByte w } }

/-- The state with A written. -/
def setA (s : State) (v : Byte) : State := { s with regs := { s.regs with a := v } }

/-- The state with SP written. -/
def setSP (s : State) (w : Word) : State := { s with regs := { s.regs with sp := w } }

/-- The state with PC written. -/
def setPC (s : State) (w : Word) : State := { s with regs := { s.regs with pc := w } }

/-- An instruction done, at a cost of `n` cycles (R14, R401). -/
def done (n : Nat) (s : State) : Result := .next { s with cycles := n }

/-! ## Interrupt lines -/

/-- The five lines, in priority order (R32, R410). -/
inductive Line where
  | vblank
  | stat
  | timer
  | serial
  | input
deriving DecidableEq, Repr

/-- The bit of a line in IE and IF (R410). -/
def Line.bit : Line → Nat
  | .vblank => 0
  | .stat => 1
  | .timer => 2
  | .serial => 3
  | .input => 4

/-- `Request(line)` (R411). -/
def request (l : Line) (s : State) : State := { s with iflag := s.iflag ||| (1#5 <<< l.bit) }

/-- `IE & IF & 0x1F` (R400). -/
def pendingLines (s : State) : BitVec 5 := s.ie.extractLsb' 0 5 &&& s.iflag

/-- The lowest-numbered bit set among the five, 0 to 4; 5 when none is (R414). -/
def lowestLine (p : BitVec 5) : Nat :=
  if p.getLsbD 0 = true then 0
  else if p.getLsbD 1 = true then 1
  else if p.getLsbD 2 = true then 2
  else if p.getLsbD 3 = true then 3
  else if p.getLsbD 4 = true then 4
  else 5

/-! ## The bus -/

/-- The display's mode, STAT[1:0] (R59). -/
def lcdMode (s : State) : BitVec 2 := s.lcd.stat.extractLsb' 0 2

/-- LCDC[7] (R58). -/
def lcdOn (s : State) : Bool := s.lcd.lcdc.getLsbD 7

/-- `VramBlocked()` (R112). -/
def vramBlocked (s : State) : Bool := lcdOn s && lcdMode s == 3#2

/-- `OamBlocked()` (R112). -/
def oamBlocked (s : State) : Bool := lcdOn s && (lcdMode s == 2#2 || lcdMode s == 3#2)

/-- The bus read of R110; `gated := false` is `RawRead`, with both blocked tests false. -/
def readAt (gated : Bool) (s : State) (addr : Word) : Byte :=
  let a := addr.toNat
  if s.bootOverlay = true ∧ a ≤ 0x00FF then Memory.read s.cart.bootImage a
  else if a ≤ 0x7FFF then cartRomRead s.cart s.mbc a
  else if a ≤ 0x9FFF then if gated = true ∧ vramBlocked s = true then 0xFF#8 else Memory.read s.mem a
  else if a ≤ 0xBFFF then cartRamRead s (a - 0xA000)
  else if a ≤ 0xDFFF then Memory.read s.mem a
  else if a ≤ 0xFDFF then Memory.read s.mem (a - 0x2000)
  else if a ≤ 0xFE9F then if gated = true ∧ oamBlocked s = true then 0xFF#8 else Memory.read s.mem a
  else if a ≤ 0xFEFF then 0xFF#8
  else if a ≤ 0xFF7F then ioRead s a
  else if a ≤ 0xFFFE then Memory.read s.mem a
  else s.ie

/-- `MemRead(a, 1)` (R110). -/
def memRead (s : State) (a : Word) : Byte := readAt true s a

/-- `RawRead(a)` (R110), used by the DMA copy only. -/
def rawRead (s : State) (a : Word) : Byte := readAt false s a

/-- The state after a bus read: nothing changes (R103), but a read of P1 takes one BUTTONS answer
(R481, log 5). -/
def afterRead (s : State) (a : Word) : State := if a = 0xFF00#16 then drawButtons s else s

/-- A CPU bus read: the byte and the state after it. -/
def busRead (s : State) (a : Word) : Byte × State := (memRead s a, afterRead s a)

/-- One byte of the DMA copy (R125): OAM entry `i` from the source page `v`. -/
def dmaByte (v : Byte) (s : State) (i : Nat) : State :=
  let src : Word := mkWord v 0#8 + BitVec.ofNat 16 i
  { afterRead s src with mem := Memory.write s.mem (0xFE00 + i) (rawRead s src) }

/-- The object-attribute DMA from page `v`, 160 bytes in order (R125). -/
def dmaCopy (s : State) (v : Byte) : State := (List.range 160).foldl (dmaByte v) s

/-- A write to SC (R35, R471). -/
def writeSc (d : Serial) (v : Byte) : Serial :=
  { d with sc := v &&& 0x81#8, bitCount := if v.getLsbD 7 = true then 0 else d.bitCount }

/-- A write to STAT (R59). -/
def writeStat (d : Lcd) (v : Byte) : Lcd :=
  { d with stat := 0x80#8 ||| (v &&& 0x78#8) ||| (d.stat &&& 0x07#8) }

/-- The effect of a CPU write of `v` to a register, after the sound gate (R111, R31, R33 to R66). -/
def regWrite (s : State) (v : Byte) : IoReg → State
  | .p1 => { s with p1Sel := v.extractLsb' 4 2 }
  | .sb => { s with serial := { s.serial with sb := v } }
  | .sc => { s with serial := writeSc s.serial v }
  | .div => { s with timer := { s.timer with div := 0#8, divAcc := 0 } }
  | .tima => { s with timer := { s.timer with tima := v } }
  | .tma => { s with timer := { s.timer with tma := v } }
  | .tac => { s with timer := { s.timer with tac := v.extractLsb' 0 3 } }
  | .iflag => { s with iflag := v.extractLsb' 0 5 }
  | .lcdc => withLcd s { s.lcd with lcdc := v }
  | .stat => withLcd s (writeStat s.lcd v)
  | .scy => withLcd s { s.lcd with scy := v }
  | .scx => withLcd s { s.lcd with scx := v }
  | .ly => s
  | .lyc => withLcd s { s.lcd with lyc := v }
  | .dma => dmaCopy (withLcd s { s.lcd with dma := v }) v
  | .bgp => withLcd s { s.lcd with bgp := v }
  | .obp0 => withLcd s { s.lcd with obp0 := v }
  | .obp1 => withLcd s { s.lcd with obp1 := v }
  | .wy => withLcd s { s.lcd with wy := v }
  | .wx => withLcd s { s.lcd with wx := v }
  | .boot => if v = 0x01#8 then { s with bootOverlay := false } else s
  | r => withSound s (soundRegWrite s.sound v r)

/-- `IoWrite(a, v)` for `a` in 0xFF00 to 0xFF7F (R111): first the sound gate (R116), then the
register's effect; an unmapped address ignores the write (R66). -/
def ioWrite (s : State) (a : Nat) (v : Byte) : State :=
  match ioRegAt a with
  | some r => if r.soundGated = true ∧ s.sound.master = false then s else regWrite s v r
  | none => if isWaveRam a = true then { s with mem := Memory.write s.mem a v } else s

/-- `MemWrite(a, 1, v)` (R111). -/
def memWrite (s : State) (addr : Word) (v : Byte) : State :=
  let a := addr.toNat
  if a ≤ 0x7FFF then cartControlWrite s a v
  else if a ≤ 0x9FFF then
    if vramBlocked s = true then s else { s with mem := Memory.write s.mem a v }
  else if a ≤ 0xBFFF then cartRamWrite s (a - 0xA000) v
  else if a ≤ 0xDFFF then { s with mem := Memory.write s.mem a v }
  else if a ≤ 0xFDFF then { s with mem := Memory.write s.mem (a - 0x2000) v }
  else if a ≤ 0xFE9F then
    if oamBlocked s = true then s else { s with mem := Memory.write s.mem a v }
  else if a ≤ 0xFEFF then s
  else if a ≤ 0xFF7F then ioWrite s a v
  else if a ≤ 0xFFFE then { s with mem := Memory.write s.mem a v }
  else { s with ie := v }

/-! ## The stack -/

/-- `Push16(v)` (R220): the high byte first, each after a decrement of SP. -/
def push16 (s : State) (v : Word) : State :=
  let s1 := setSP s (s.regs.sp - 1#16)
  let s2 := memWrite s1 s1.regs.sp (hiByte v)
  let s3 := setSP s2 (s2.regs.sp - 1#16)
  memWrite s3 s3.regs.sp (loByte v)

/-- `Pop16()` (R221): the low byte first, SP incremented after each read. -/
def pop16 (s : State) : Word × State :=
  let (lo, s1) := busRead s s.regs.sp
  let s2 := setSP s1 (s1.regs.sp + 1#16)
  let (hi, s3) := busRead s2 s2.regs.sp
  (mkWord hi lo, setSP s3 (s3.regs.sp + 1#16))

/-! ## Fetch -/

/-- `FetchByte()` (R405), with the HALT bug of R322. -/
def fetchByte (s : State) : Byte × State :=
  let (v, s1) := busRead s s.regs.pc
  if s1.haltBugPending = true then (v, { s1 with haltBugPending := false })
  else (v, setPC s1 (s1.regs.pc + 1#16))

/-- `n` bytes fetched one after the other. -/
def fetchBytes : Nat → State → List Byte × State
  | 0, s => ([], s)
  | n + 1, s =>
    let (v, s1) := fetchByte s
    let (vs, s2) := fetchBytes n s1
    (v :: vs, s2)

/-- `Decode()` (R185): the opcode, then as many bytes as its length asks for. -/
def fetchInstr (s : State) : Instr × State :=
  let (op, s1) := fetchByte s
  let (rest, s2) := fetchBytes (instrLength op - 1) s1
  (decodeInstr op (rest.getD 0 0#8) (rest.getD 1 0#8), s2)

/-! ## Trap entry and return -/

/-- `Dispatch()` (R420), the only trap entry: the line is chosen before the push, the return address
pushed (that of the HALT when the HALT bug is pending, R322), IME and the chosen IF bit cleared,
PC sent to 0x0040 + 8k. -/
def dispatch (s : State) : State :=
  let k := lowestLine (pendingLines s)
  let ret := if s.haltBugPending = true then s.regs.pc - 1#16 else s.regs.pc
  let s1 := push16 { s with haltBugPending := false } ret
  { s1 with
    ime := false
    iflag := s1.iflag &&& ~~~(1#5 <<< k)
    regs := { s1.regs with pc := BitVec.ofNat 16 (0x0040 + 8 * k) }
    cycles := 20 }

/-- The trap return of RETI (R310, R422): PC popped, IME set at once, no enable left scheduled. -/
def returnFromInterrupt (s : State) : State :=
  let (w, s1) := pop16 s
  { setPC s1 w with ime := true, eiDelay := 0 }

/-! ## The fatal state -/

/-- The runtime cause code of a fatal reason (R431); the load-time codes are `LoadReject.code`. -/
def FatalReason.code : FatalReason → Byte
  | .illegalOpcode _ _ => 0x01#8

/-- `raise Fatal(IllegalOpcode(op, addr))` (R327, R430): the run state becomes `Faulted`, nothing
else changes. -/
def raiseIllegal (op : Byte) (s : State) : State :=
  { s with runState := .faulted (.illegalOpcode op s.instrAddr) }

/-- Whether the run has ended (R430). -/
def isFaulted (s : State) : Bool :=
  match s.runState with
  | .faulted _ => true
  | .running => false
  | .halted => false
  | .stopped => false

end Sys2Proof.Machine
end

