-- ==== Sys2Proof/Machine/Place.lean ====
section
/-! DEFINITION. Placing an instruction where the next fetch reads it: a load from outside the machine
(log 8). No rule of the spec does this; a run of the machine never does. -/

namespace Sys2Proof.Machine

/-- The byte `v` put into the storage that a bus read of `addr` reads: boot image, cartridge image,
external RAM, or `mem`; the state as it is where no storage is behind the address. -/
def placeByte (s : State) (addr : Word) (v : Byte) : State :=
  let a := addr.toNat
  if s.bootOverlay = true ∧ a ≤ 0x00FF then
    { s with cart := { s.cart with bootImage := Memory.write s.cart.bootImage a v } }
  else if a ≤ 0x7FFF then
    let i := romIndex s.cart (romBankAt s.cart s.mbc a) (a % 0x4000)
    { s with cart := { s.cart with
        rom := { len := max s.cart.rom.len (i + 1), cells := Memory.write s.cart.rom.cells i v } } }
  else if a ≤ 0x9FFF then { s with mem := Memory.write s.mem a v }
  else if a ≤ 0xBFFF then
    match eramIndex s.cart s.mbc (a - 0xA000) with
    | some i => { s with eram := Memory.write s.eram i v }
    | none => s
  else if a ≤ 0xDFFF then { s with mem := Memory.write s.mem a v }
  else if a ≤ 0xFDFF then { s with mem := Memory.write s.mem (a - 0x2000) v }
  else if a ≤ 0xFE9F then { s with mem := Memory.write s.mem a v }
  else if a ≤ 0xFF7F then s
  else if a ≤ 0xFFFE then { s with mem := Memory.write s.mem a v }
  else s

/-- Bytes placed at `addr` and the addresses after it. -/
def placeBytes : List Byte → Word → State → State
  | [], _, s => s
  | v :: vs, addr, s => placeBytes vs (addr + 1#16) (placeByte s addr v)

/-- Whether bus reads from `addr` on give the bytes. -/
def readsBack : List Byte → Word → State → Bool
  | [], _, _ => true
  | v :: vs, addr, s => memRead s addr == v && readsBack vs (addr + 1#16) s

/-- The state in which the next step fetches: running, no HALT bug pending, and IME off if a line is
pending. -/
def readyToFetch (s : State) : State :=
  { s with
    runState := .running
    haltBugPending := false
    ime := s.ime && pendingLines s == 0#5 }

/-- The bytes placed at PC, or, where no storage is behind PC, in working RAM with PC sent there. -/
def placeCode (bytes : List Byte) (s : State) : State :=
  let t := placeBytes bytes s.regs.pc (readyToFetch s)
  if readsBack bytes s.regs.pc t = true then t
  else placeBytes bytes 0xC000#16 (setPC (readyToFetch s) 0xC000#16)

end Sys2Proof.Machine
end

