-- ==== Sys2Proof/Machine/DisplayUnit.lean ====
section
/-! DEFINITION. The display controller (60_exceptions.md section 9): mode state machine, coincidence,
scanline rasterizer, frame delivery. -/

namespace Sys2Proof.Machine

/-! ## Pixels -/

/-- The colour code at pixel column `col` of the tile row at `base`: bit 7 is column 0 (R533). -/
def tileCode (mem : Memory) (base col : Nat) : BitVec 2 :=
  BitVec.ofBool ((Memory.read mem (base + 1)).getLsbD (7 - col))
    ++ BitVec.ofBool ((Memory.read mem base).getLsbD (7 - col))

/-- The address of a background or window tile, by LCDC[4] (R533). -/
def tileBase (lcdc idx : Byte) : Nat :=
  if lcdc.getLsbD 4 = true then 0x8000 + idx.toNat * 16 else (0x9000 + idx.toInt * 16).toNat

/-- `TilePixel(idx, row, col)` (R533). -/
def tilePixel (mem : Memory) (lcdc idx : Byte) (row col : Nat) : BitVec 2 :=
  tileCode mem (tileBase lcdc idx + 2 * row) col

/-- The colour code at `(px, py)` of the 32 by 32 tile map at `map` (R531, R532). -/
def mapPixel (mem : Memory) (lcdc : Byte) (map px py : Nat) : BitVec 2 :=
  tilePixel mem lcdc (Memory.read mem (map + (py / 8) * 32 + px / 8)) (py % 8) (px % 8)

/-- The base of a tile map, by its select bit (R58). -/
def mapBase (select : Bool) : Nat := if select = true then 0x9C00 else 0x9800

/-- The background's colour code at column `x` of line `y` (R531). -/
def backgroundCode (mem : Memory) (d : Lcd) (y x : Nat) : BitVec 2 :=
  mapPixel mem d.lcdc (mapBase (d.lcdc.getLsbD 3)) ((d.scx.toNat + x) % 256) ((d.scy.toNat + y) % 256)

/-- Whether the window covers column `x` of line `y` (R532). -/
def windowCovers (d : Lcd) (y x : Nat) : Bool :=
  d.lcdc.getLsbD 0 && d.lcdc.getLsbD 5 && decide (d.wy.toNat ≤ y) && decide (x + 7 ≥ d.wx.toNat)

/-- The window's colour code at a column it covers (R532). -/
def windowCode (mem : Memory) (d : Lcd) (y x : Nat) : BitVec 2 :=
  mapPixel mem d.lcdc (mapBase (d.lcdc.getLsbD 6)) (x + 7 - d.wx.toNat) (y - d.wy.toNat)

/-- `bg_code[x]` of line `y` (R531 to R534). -/
def layerCode (mem : Memory) (d : Lcd) (y x : Nat) : BitVec 2 :=
  if d.lcdc.getLsbD 0 = false then 0#2
  else if windowCovers d y x = true then windowCode mem d y x
  else backgroundCode mem d y x

/-- The shade that a palette register gives a colour code (R64). -/
def paletteShade (pal : Byte) (code : BitVec 2) : BitVec 2 := pal.extractLsb' (2 * code.toNat) 2

/-- The background or window shade of a column (R534). -/
def layerShade (d : Lcd) (code : BitVec 2) : BitVec 2 :=
  if d.lcdc.getLsbD 0 = false then 0#2 else paletteShade d.bgp code

/-! ## Objects -/

/-- One object-attribute entry (R535). -/
structure Obj where
  y : Nat
  x : Nat
  tile : Byte
  attr : Byte
deriving DecidableEq, Repr

/-- Object `i`'s four OAM bytes (R535). -/
def objectAt (mem : Memory) (i : Nat) : Obj :=
  { y := (Memory.read mem (0xFE00 + 4 * i)).toNat
    x := (Memory.read mem (0xFE00 + 4 * i + 1)).toNat
    tile := Memory.read mem (0xFE00 + 4 * i + 2)
    attr := Memory.read mem (0xFE00 + 4 * i + 3) }

/-- The object height, by LCDC[2] (R535). -/
def objectHeight (d : Lcd) : Nat := if d.lcdc.getLsbD 2 = true then 16 else 8

/-- Whether an object's vertical span meets line `y` (R535). -/
def onLine (d : Lcd) (y : Nat) (o : Obj) : Bool :=
  decide (o.y ≤ y + 16) && decide (y + 16 < o.y + objectHeight d)

/-- The objects of line `y`: the first 10 in table order, none while LCDC[1] is 0 (R535). -/
def selectedObjects (mem : Memory) (d : Lcd) (y : Nat) : List Obj :=
  if d.lcdc.getLsbD 1 = true then
    (((List.range 40).map (objectAt mem)).filter (onLine d y)).take 10
  else []

/-- Whether an object covers column `x` (R536). -/
def coversColumn (o : Obj) (x : Nat) : Bool := decide (o.x ≤ x + 8) && decide (x + 8 < o.x + 8)

/-- The row of an object's bitmap on line `y`, flipped by attribute bit 6 (R536). -/
def objectRow (d : Lcd) (o : Obj) (y : Nat) : Nat :=
  if o.attr.getLsbD 6 = true then objectHeight d - 1 - (y + 16 - o.y) else y + 16 - o.y

/-- The tile number, bit 0 ignored for tall objects (R536). -/
def objectTile (d : Lcd) (o : Obj) : Byte :=
  if d.lcdc.getLsbD 2 = true then o.tile &&& 0xFE#8 else o.tile

/-- The object's bitmap column at `x`, flipped by attribute bit 5 (R536). -/
def objectColumn (o : Obj) (x : Nat) : Nat :=
  if o.attr.getLsbD 5 = true then 7 - (x + 8 - o.x) else x + 8 - o.x

/-- The object's colour code at a column it covers (R536). -/
def objectCode (mem : Memory) (d : Lcd) (y x : Nat) (o : Obj) : BitVec 2 :=
  tileCode mem (0x8000 + (objectTile d o).toNat * 16 + 2 * objectRow d o y) (objectColumn o x)

/-- Whether the object shows a pixel at column `x`: it covers it with a non-zero code (R537). -/
def opaqueAt (mem : Memory) (d : Lcd) (y x : Nat) (o : Obj) : Bool :=
  coversColumn o x && !(objectCode mem d y x o == 0#2)

/-- The object with the smallest X, the earliest among equals (R537). -/
def leftmost : List Obj → Option Obj
  | [] => none
  | o :: os =>
    match leftmost os with
    | none => some o
    | some p => if p.x < o.x then some p else some o

/-- The winner of column `x` (R537). -/
def winnerAt (mem : Memory) (d : Lcd) (y x : Nat) : Option Obj :=
  leftmost ((selectedObjects mem d y).filter (opaqueAt mem d y x))

/-- The shade of an object's pixel, by its palette bit (R536). -/
def objectShade (mem : Memory) (d : Lcd) (y x : Nat) (o : Obj) : BitVec 2 :=
  paletteShade (if o.attr.getLsbD 4 = true then d.obp1 else d.obp0) (objectCode mem d y x o)

/-- The final shade of column `x` of line `y` (R534, R537). -/
def pixelShade (mem : Memory) (d : Lcd) (y x : Nat) : BitVec 2 :=
  let code := layerCode mem d y x
  match winnerAt mem d y x with
  | none => layerShade d code
  | some o =>
    if o.attr.getLsbD 7 = true ∧ code ≠ 0#2 then layerShade d code else objectShade mem d y x o

/-- `Rasterize(y)` (R530 to R538). -/
def rasterize (mem : Memory) (d : Lcd) (y : Nat) : Lcd :=
  { d with
    bgCode := (List.range 160).map (layerCode mem d y)
    frameBuffer := d.frameBuffer.set y ((List.range 160).map (pixelShade mem d y)) }

/-! ## Modes -/

/-- STAT[1:0] written by the display (R59). -/
def setMode (d : Lcd) (m : BitVec 2) : Lcd := { d with stat := (d.stat &&& 0xFC#8) ||| m.zeroExtend 8 }

/-- The STAT interrupt requested when its enable bit `b` is set (R522). -/
def requestStat (b : Nat) (s : State) : State :=
  if s.lcd.stat.getLsbD b = true then request .stat s else s

/-- The frame marked complete and a pending palette swap applied (R522, R545). -/
def completeFrame (d : Lcd) : Lcd :=
  { d with
    frameReady := true
    paletteActive := d.swapPending.getD d.paletteActive
    swapPending := none }

/-- `EnterMode(m)` (R522). -/
def enterMode (m : BitVec 2) (s : State) : State :=
  match m.toNat with
  | 0 => requestStat 3 (withLcd s (rasterize s.mem s.lcd s.lcd.ly.toNat))
  | 1 =>
    let s1 := request .vblank s
    requestStat 4 (withLcd s1 (completeFrame s1.lcd))
  | 2 => requestStat 5 s
  | _ => s

/-- `Coincidence()` (R526): a request on the rising edge only. -/
def coincidence (s : State) : State :=
  let c := s.lcd.ly == s.lcd.lyc
  let d := { s.lcd with
    stat := (s.lcd.stat &&& 0xFB#8) ||| (if c = true then 0x04#8 else 0x00#8)
    prevCoinc := c }
  let s1 := withLcd s d
  if c = true ∧ s.lcd.prevCoinc = false ∧ d.stat.getLsbD 6 = true then request .stat s1 else s1

/-- The display held at line 0 in mode 0 while LCDC[7] is 0 (R520). -/
def displayOff (d : Lcd) : Lcd := setMode { d with ly := 0#8, lineCycles := 0 } 0#2

/-- `line_cycles` and `LY` after `n` cycles (R521). -/
def advanceLine (n : Nat) (d : Lcd) : Lcd :=
  if d.lineCycles + n ≥ 456 then
    { d with lineCycles := d.lineCycles + n - 456, ly := BitVec.ofNat 8 ((d.ly.toNat + 1) % 154) }
  else { d with lineCycles := d.lineCycles + n }

/-- The mode that `LY` and `line_cycles` give (R521). -/
def modeOf (d : Lcd) : BitVec 2 :=
  if d.ly.toNat ≥ 144 then 1#2 else if d.lineCycles ≤ 80 then 2#2 else if d.lineCycles ≤ 252 then 3#2 else 0#2

/-- The mode evaluated, with its entry actions when it changes (R521). -/
def evaluateMode (s : State) : State :=
  let m := modeOf s.lcd
  if m = lcdMode s then s else enterMode m (withLcd s (setMode s.lcd m))

/-- `DisplayStep(n)` (R520, R521). -/
def displayStep (n : Nat) (s : State) : State :=
  if lcdOn s = true then coincidence (evaluateMode (withLcd s (advanceLine n s.lcd)))
  else withLcd s (displayOff s.lcd)

/-! ## Frame delivery -/

/-- The RGB triple of a shade (R545). -/
def shadeRgb (p : Palette) (shade : BitVec 2) : Rgb :=
  match shade.toNat with
  | 0 => p.c0
  | 1 => p.c1
  | 2 => p.c2
  | _ => p.c3

/-- The frame a step returns to the host, if it returns one (R545, R546). -/
def deliveredFrame (s : State) : Option (List (List Rgb)) :=
  if s.lcd.frameReady = true then
    some (s.lcd.frameBuffer.map (fun row => row.map (shadeRgb s.lcd.paletteActive)))
  else none

end Sys2Proof.Machine
end

