-- ==== Sys2Proof/Machine/SerialUnit.lean ====
section
/-! DEFINITION. The serial link (60_exceptions.md section 7). -/

namespace Sys2Proof.Machine

/-- The byte SB is replaced with at the end of a transfer, SC[7] cleared and the interrupt
requested (R470). -/
def finishTransfer (b : Byte) (s : State) : State :=
  request .serial { s with serial := { s.serial with sb := b, sc := s.serial.sc &&& 0x7F#8 } }

/-- SB sent to the peer. -/
def sendToPeer (s : State) : State :=
  { s with out := { s.out with serialSent := s.out.serialSent ++ [s.serial.sb] } }

/-- The passive side of a serial tick (R470): an unsolicited byte is exchanged for SB. -/
def passiveExchange (a : PeerAnswer) (s : State) : State :=
  match a with
  | .connected (some b) _ => finishTransfer b (sendToPeer s)
  | .connected none _ => s
  | .disconnected => s

/-- The exchange at the eighth bit (R470): the peer's byte for SB, or 0xFF if not connected. DESIGN CHOICE (log 16): without a
peer nothing is sent. -/
def activeExchange (a : PeerAnswer) (s : State) : State :=
  match a with
  | .connected _ reply => finishTransfer reply (sendToPeer s)
  | .disconnected => finishTransfer 0xFF#8 s

/-- The local transfer's part of a serial tick (R470): internal clock only. -/
def localTransfer (a : PeerAnswer) (s : State) : State :=
  if s.serial.sc.getLsbD 7 = true ∧ s.serial.sc.getLsbD 0 = true then
    if s.serial.bitCount + 1 = 8 then
      activeExchange a { s with serial := { s.serial with bitCount := 0 } }
    else { s with serial := { s.serial with bitCount := s.serial.bitCount + 1 } }
  else s

/-- `SerialTick()` (R470); DESIGN CHOICE (log 16): SERIAL_PEER answers once a tick. -/
def serialTick (s : State) : State :=
  let a := s.host.serialPeer.now
  localTransfer a (passiveExchange a (drawSerialPeer s))

/-- `k` serial ticks. -/
def serialTicks : Nat → State → State
  | 0, s => s
  | k + 1, s => serialTicks k (serialTick s)

/-- `SerialStep(n)` (R470): one tick per 512 cycles accumulated. -/
def serialStep (n : Nat) (s : State) : State :=
  let acc := s.serial.acc + n
  serialTicks (acc / 512) { s with serial := { s.serial with acc := acc % 512 } }

end Sys2Proof.Machine
end

