-- ==== Sys2Proof/Machine/TimerUnit.lean ====
section
/-! DEFINITION. The divider and timer (60_exceptions.md section 6). -/

namespace Sys2Proof.Machine

/-- The divider part of `TimerStep(n)` (R450): one increment per 256 cycles accumulated. -/
def dividerStep (n : Nat) (t : Timer) : Timer :=
  { t with div := t.div + BitVec.ofNat 8 ((t.divAcc + n) / 256), divAcc := (t.divAcc + n) % 256 }

/-- The cycles per TIMA increment, by TAC[1:0] (R39, R451). -/
def timerThreshold (tac : BitVec 3) : Nat :=
  match tac.toNat % 4 with
  | 0 => 1024
  | 1 => 16
  | 2 => 64
  | _ => 256

/-- One TIMA increment, or at 0xFF the reload from TMA and the timer request (R451). -/
def timaTick (s : State) : State :=
  if s.timer.tima = 0xFF#8 then request .timer { s with timer := { s.timer with tima := s.timer.tma } }
  else { s with timer := { s.timer with tima := s.timer.tima + 1#8 } }

/-- `k` TIMA increments. -/
def timaTicks : Nat → State → State
  | 0, s => s
  | k + 1, s => timaTicks k (timaTick s)

/-- The counter part of `TimerStep(n)` (R451): only while TAC[2] is 1. -/
def counterStep (n : Nat) (s : State) : State :=
  if s.timer.tac.getLsbD 2 = true then
    let acc := s.timer.timaAcc + n
    let t := timerThreshold s.timer.tac
    timaTicks (acc / t) { s with timer := { s.timer with timaAcc := acc % t } }
  else s

/-- `TimerStep(n)` (R450, R451). -/
def timerStep (n : Nat) (s : State) : State := counterStep n { s with timer := dividerStep n s.timer }

end Sys2Proof.Machine
end

