-- ==== Sys2Proof/Machine/Devices.lean ====
section
/-! DEFINITION. The end of a step: delayed enable (R404), device advance in its fixed order (R402),
input sampling (R480). -/

namespace Sys2Proof.Machine

/-- `EndOfStep()` (R404). -/
def endOfStep (s : State) : State :=
  if s.eiDelay > 0 then
    if s.eiDelay - 1 = 0 then { s with eiDelay := 0, ime := true } else { s with eiDelay := s.eiDelay - 1 }
  else s

/-- `SoundStep(n)` (R561, R576): the samples emitted join the step's output. -/
def soundStep (n : Nat) (s : State) : State :=
  let r := soundTicks s.mem n s.sound
  { s with sound := r.1, out := { s.out with samples := s.out.samples ++ r.2 } }

/-- `AdvanceDevices(n)`: timer, display, sound, serial (R402). -/
def advanceDevices (n : Nat) (s : State) : State :=
  serialStep n (soundStep n (displayStep n (timerStep n s)))

/-- `SampleInput()` (R480): a line going from 1 to 0 requests the input interrupt. -/
def sampleInput (s : State) : State :=
  let lines := inputLines s
  let s1 := drawButtons s
  let s2 := if s.joyPrev &&& ~~~lines ≠ 0#4 then request .input s1 else s1
  { s2 with joyPrev := lines }

/-- What follows the CPU part of a step that did not fault (R400 `finish`). -/
def finishStep (s : State) : State := sampleInput (advanceDevices s.cycles (endOfStep s))

end Sys2Proof.Machine
end

