-- ==== Sys2Proof/Machine/Flags.lean ====
section
/-! DEFINITION. The flags (R22, R23), the notation `flags(z, n, h, c)` of R12, and every result and
flag computation of files 41 to 43. -/

namespace Sys2Proof.Machine

/-- Z, bit 7 of F (R22). -/
def flagZ (s : State) : Bool := s.regs.f.getLsbD 7

/-- N, bit 6 of F (R22). -/
def flagN (s : State) : Bool := s.regs.f.getLsbD 6

/-- H, bit 5 of F (R22). -/
def flagH (s : State) : Bool := s.regs.f.getLsbD 5

/-- Cy, bit 4 of F (R22). -/
def flagC (s : State) : Bool := s.regs.f.getLsbD 4

/-- F from its four flags, the low nibble 0 (R22). -/
def packF (z n h c : Bool) : Byte :=
  BitVec.ofBool z ++ BitVec.ofBool n ++ BitVec.ofBool h ++ BitVec.ofBool c ++ 0#4

/-- `flags(z, n, h, c)` of R12; `none` is `-`, the old value kept. -/
structure FlagWrite where
  z : Option Bool
  n : Option Bool
  h : Option Bool
  c : Option Bool
deriving DecidableEq, Repr

/-- The state with the flags of `w` written (R12). -/
def writeFlags (s : State) (w : FlagWrite) : State :=
  { s with regs := { s.regs with
      f := packF (w.z.getD (flagZ s)) (w.n.getD (flagN s)) (w.h.getD (flagH s)) (w.c.getD (flagC s)) } }

/-- All four flags written. -/
def allFlags (z n h c : Bool) : FlagWrite := ⟨some z, some n, some h, some c⟩

/-- The carry flag as 0 or 1. -/
def carryIn (c : Bool) : Nat := if c = true then 1 else 0

/-- The low nibble as a number. -/
def lowNibble (v : Byte) : Nat := v.toNat % 16

/-- A result with its flags. -/
structure AluOut where
  value : Byte
  flags : FlagWrite
deriving DecidableEq, Repr

/-- ADD and, with a carry in, ADC (R231, R232): H out of bit 3, Cy out of bit 7. -/
def addOut (a b : Byte) (cin : Nat) : AluOut :=
  let t := a.toNat + b.toNat + cin
  let v := BitVec.ofNat 8 t
  ⟨v, allFlags (v == 0#8) false (decide (lowNibble a + lowNibble b + cin > 0x0F)) (decide (t > 0xFF))⟩

/-- SUB and, with a borrow in, SBC (R233, R234): H the borrow from bit 4, Cy the borrow. -/
def subOut (a b : Byte) (cin : Nat) : AluOut :=
  let v := a - b - BitVec.ofNat 8 cin
  ⟨v, allFlags (v == 0#8) true (decide (lowNibble a < lowNibble b + cin)) (decide (a.toNat < b.toNat + cin))⟩

/-- The eight accumulator operations (R177). -/
inductive AluOp where
  | add
  | adc
  | sub
  | sbc
  | and
  | xor
  | or
  | cp
deriving DecidableEq, Repr

/-- The operation's result and flags from A, the source and Cy (R231 to R238); CP's result is the
difference, which is not written back. -/
def aluOut (op : AluOp) (a b : Byte) (c : Bool) : AluOut :=
  match op with
  | .add => addOut a b 0
  | .adc => addOut a b (carryIn c)
  | .sub => subOut a b 0
  | .sbc => subOut a b (carryIn c)
  | .and => ⟨a &&& b, allFlags (a &&& b == 0#8) false true false⟩
  | .xor => ⟨a ^^^ b, allFlags (a ^^^ b == 0#8) false false false⟩
  | .or => ⟨a ||| b, allFlags (a ||| b == 0#8) false false false⟩
  | .cp => subOut a b 0

/-- INC of a byte (R239, R240): Cy kept. -/
def incOut (old : Byte) : AluOut :=
  ⟨old + 1#8, ⟨some (old + 1#8 == 0#8), some false, some (lowNibble old == 0x0F), none⟩⟩

/-- DEC of a byte (R241, R242): Cy kept. -/
def decOut (old : Byte) : AluOut :=
  ⟨old - 1#8, ⟨some (old - 1#8 == 0#8), some true, some (lowNibble old == 0), none⟩⟩

/-- DAA's value after the high adjustment, in the addition branch (R243). -/
def daaHigh (a : Byte) (c : Bool) : Byte :=
  if c = true ∨ a.toNat > 0x99 then a + 0x60#8 else a

/-- DAA (R243): value and flags from A and N, H, Cy. -/
def daaOut (a : Byte) (n h c : Bool) : AluOut :=
  if n = false then
    let a1 := daaHigh a c
    let a2 := if h = true ∨ lowNibble a1 > 0x09 then a1 + 0x06#8 else a1
    ⟨a2, ⟨some (a2 == 0#8), none, some false, some (c || decide (a.toNat > 0x99))⟩⟩
  else
    let a1 := if c = true then a - 0x60#8 else a
    let a2 := if h = true then a1 - 0x06#8 else a1
    ⟨a2, ⟨some (a2 == 0#8), none, some false, some c⟩⟩

/-- The rotates, shifts and SWAP of the extended table (R178). -/
inductive ShiftOp where
  | rlc
  | rrc
  | rl
  | rr
  | sla
  | sra
  | swap
  | srl
deriving DecidableEq, Repr

/-- The result of a rotate, shift or swap of `x` with the old carry `c` (R275 to R282). -/
def shiftValue (op : ShiftOp) (x : Byte) (c : Bool) : Byte :=
  match op with
  | .rlc => x.extractLsb' 0 7 ++ x.extractLsb' 7 1
  | .rrc => x.extractLsb' 0 1 ++ x.extractLsb' 1 7
  | .rl => x.extractLsb' 0 7 ++ BitVec.ofBool c
  | .rr => BitVec.ofBool c ++ x.extractLsb' 1 7
  | .sla => x.extractLsb' 0 7 ++ 0#1
  | .sra => x.extractLsb' 7 1 ++ x.extractLsb' 1 7
  | .swap => x.extractLsb' 0 4 ++ x.extractLsb' 4 4
  | .srl => 0#1 ++ x.extractLsb' 1 7

/-- The bit shifted out, the new Cy (R275 to R282); 0 for SWAP. -/
def shiftCarry (op : ShiftOp) (x : Byte) : Bool :=
  match op with
  | .rlc => x.getLsbD 7
  | .rrc => x.getLsbD 0
  | .rl => x.getLsbD 7
  | .rr => x.getLsbD 0
  | .sla => x.getLsbD 7
  | .sra => x.getLsbD 0
  | .swap => false
  | .srl => x.getLsbD 0

/-- An extended rotate, shift or swap: `flags(v = 0, 0, 0, c)` (R275 to R282). -/
def shiftOut (op : ShiftOp) (x : Byte) (c : Bool) : AluOut :=
  ⟨shiftValue op x c, allFlags (shiftValue op x c == 0#8) false false (shiftCarry op x)⟩

/-- An accumulator rotate: the same value, Z always 0 (R270 to R273). -/
def rotateAOut (op : ShiftOp) (x : Byte) (c : Bool) : AluOut :=
  ⟨shiftValue op x c, allFlags false false false (shiftCarry op x)⟩

/-- BIT b's flags (R283). -/
def bitFlags (b : Fin 8) (x : Byte) : FlagWrite := ⟨some (!x.getLsbD b), some false, some true, none⟩

/-- The mask of bit `b`. -/
def bitMask (b : Fin 8) : Byte := 1#8 <<< b.val

/-- ADD HL,rr's flags (R260): H out of bit 11, Cy out of bit 15, Z kept. -/
def addHLFlags (hl w : Word) : FlagWrite :=
  ⟨none, some false, some (decide (hl.toNat % 0x1000 + w.toNat % 0x1000 > 0x0FFF)),
   some (decide (hl.toNat + w.toNat > 0xFFFF))⟩

/-- The flags of ADD SP,e8 and LD HL,SP+e8 (R227, R263): the unsigned addition of the low byte of SP
and the raw displacement byte. -/
def addSPFlags (sp : Word) (e : Byte) : FlagWrite :=
  allFlags false false (decide (sp.toNat % 16 + lowNibble e > 0x0F)) (decide (sp.toNat % 256 + e.toNat > 0xFF))

/-- `sext_16(e8)` (R11, R179). -/
def sext16 (e : Byte) : Word := e.signExtend 16

end Sys2Proof.Machine
end

