-- ==== Sys2Proof/Machine/Operands.lean ====
section
/-! DEFINITION. The operand forms: the 3-bit register field (R172), the 2-bit pair fields (R173),
the condition field (R174), the immediate and high-page addresses (R179). -/

namespace Sys2Proof.Machine

/-- The seven data registers of the field `r` (R172). -/
inductive Reg8 where
  | B
  | C
  | D
  | E
  | H
  | L
  | A
deriving DecidableEq, Repr

/-- The pairs of the field `rr` (R173). -/
inductive Reg16 where
  | BC
  | DE
  | HL
  | SP
deriving DecidableEq, Repr

/-- The pairs of the field `qq` (R173). -/
inductive StackReg where
  | BC
  | DE
  | HL
  | AF
deriving DecidableEq, Repr

/-- The conditions of the field `cc` (R174). -/
inductive Cond where
  | NZ
  | Z
  | NC
  | C
deriving DecidableEq, Repr

/-- An operand of the field `r`: a register, or the byte in memory at HL (R172). -/
inductive Opnd8 where
  | reg (r : Reg8)
  | mHL
deriving DecidableEq, Repr

/-- `reg8[r]` (R12). -/
def getReg8 (s : State) : Reg8 → Byte
  | .B => s.regs.b
  | .C => s.regs.c
  | .D => s.regs.d
  | .E => s.regs.e
  | .H => s.regs.h
  | .L => s.regs.l
  | .A => s.regs.a

/-- `reg8[r] <- v` (R12). -/
def setReg8 (s : State) (v : Byte) : Reg8 → State
  | .B => { s with regs := { s.regs with b := v } }
  | .C => { s with regs := { s.regs with c := v } }
  | .D => { s with regs := { s.regs with d := v } }
  | .E => { s with regs := { s.regs with e := v } }
  | .H => { s with regs := { s.regs with h := v } }
  | .L => { s with regs := { s.regs with l := v } }
  | .A => { s with regs := { s.regs with a := v } }

/-- `reg16[p]` (R12, R21). -/
def getReg16 (s : State) : Reg16 → Word
  | .BC => mkWord s.regs.b s.regs.c
  | .DE => mkWord s.regs.d s.regs.e
  | .HL => getHL s
  | .SP => s.regs.sp

/-- `reg16[p] <- w`: a write of a pair writes both halves at once (R21). -/
def setReg16 (s : State) (w : Word) : Reg16 → State
  | .BC => { s with regs := { s.regs with b := hiByte w, c := loByte w } }
  | .DE => { s with regs := { s.regs with d := hiByte w, e := loByte w } }
  | .HL => setHL s w
  | .SP => setSP s w

/-- `reg16stk[p]` (R12). -/
def getStackReg (s : State) : StackReg → Word
  | .BC => mkWord s.regs.b s.regs.c
  | .DE => mkWord s.regs.d s.regs.e
  | .HL => getHL s
  | .AF => mkWord s.regs.a s.regs.f

/-- `reg16stk[p] <- w` (R12); a write of AF masks F with 0xF0 (R21, R222). -/
def setStackReg (s : State) (w : Word) : StackReg → State
  | .BC => { s with regs := { s.regs with b := hiByte w, c := loByte w } }
  | .DE => { s with regs := { s.regs with d := hiByte w, e := loByte w } }
  | .HL => setHL s w
  | .AF => { s with regs := { s.regs with a := hiByte w, f := loByte w &&& 0xF0#8 } }

/-- `Cond(cc)` (R300). -/
def condHolds (s : State) : Cond → Bool
  | .NZ => !flagZ s
  | .Z => flagZ s
  | .NC => !flagC s
  | .C => flagC s

/-- The operand read once (R172, R274); a register read changes nothing. -/
def readOpnd8 (s : State) : Opnd8 → Byte × State
  | .reg r => (getReg8 s r, s)
  | .mHL => busRead s (getHL s)

/-- The operand written (R172, R274). -/
def writeOpnd8 (s : State) (v : Byte) : Opnd8 → State
  | .reg r => setReg8 s v r
  | .mHL => memWrite s (getHL s) v

/-- The cost of a form: the first for a register operand, the second for `(HL)`. -/
def opndCost (reg mem : Nat) : Opnd8 → Nat
  | .reg _ => reg
  | .mHL => mem

/-- The high-page address `0xFF00 + n` (R179). -/
def highPage (n : Byte) : Word := mkWord 0xFF#8 n

/-- The operand that the field value `r` selects (R172). -/
def opnd8Of (r : BitVec 3) : Opnd8 :=
  match r.toNat with
  | 0 => .reg .B
  | 1 => .reg .C
  | 2 => .reg .D
  | 3 => .reg .E
  | 4 => .reg .H
  | 5 => .reg .L
  | 6 => .mHL
  | _ => .reg .A

/-- The accumulator operation that the field value `ooo` selects (R177). -/
def aluOpOf (o : BitVec 3) : AluOp :=
  match o.toNat with
  | 0 => .add
  | 1 => .adc
  | 2 => .sub
  | 3 => .sbc
  | 4 => .and
  | 5 => .xor
  | 6 => .or
  | _ => .cp

/-- The rotate or shift that the field value `y` selects (R178). -/
def shiftOpOf (y : BitVec 3) : ShiftOp :=
  match y.toNat with
  | 0 => .rlc
  | 1 => .rrc
  | 2 => .rl
  | 3 => .rr
  | 4 => .sla
  | 5 => .sra
  | 6 => .swap
  | _ => .srl

/-- The pair that the field value `p` selects in `rr` (R173). -/
def reg16Of (p : BitVec 2) : Reg16 :=
  match p.toNat with
  | 0 => .BC
  | 1 => .DE
  | 2 => .HL
  | _ => .SP

/-- The pair that the field value `p` selects in `qq` (R173). -/
def stackRegOf (p : BitVec 2) : StackReg :=
  match p.toNat with
  | 0 => .BC
  | 1 => .DE
  | 2 => .HL
  | _ => .AF

/-- The condition that the field value `cc` selects (R174). -/
def condOf (c : BitVec 2) : Cond :=
  match c.toNat with
  | 0 => .NZ
  | 1 => .Z
  | 2 => .NC
  | _ => .C

end Sys2Proof.Machine
end

