-- ==== Sys2Proof/Machine/Alu16.lean ====
section
/-! DEFINITION. 16-bit arithmetic (42_alu16.md). -/

namespace Sys2Proof.Machine

/-- `ADD HL,rr` (R260). -/
def addHL (p : Reg16) (s : State) : Result :=
  let w := getReg16 s p
  done 8 (writeFlags (setHL s (getHL s + w)) (addHLFlags (getHL s) w))

/-- `INC rr` (R261). -/
def incPair (p : Reg16) (s : State) : Result := done 8 (setReg16 s (getReg16 s p + 1#16) p)

/-- `DEC rr` (R262). -/
def decPair (p : Reg16) (s : State) : Result := done 8 (setReg16 s (getReg16 s p - 1#16) p)

/-- `ADD SP,e8` (R263). -/
def addSP (e : Byte) (s : State) : Result :=
  done 16 (writeFlags (setSP s (s.regs.sp + sext16 e)) (addSPFlags s.regs.sp e))

/-! ## The instructions -/

/-- `INC BC` (0x03, R261). -/
def exec_inc_BC (s : State) : Result := incPair .BC s

/-- `ADD HL,BC` (0x09, R260). -/
def exec_add_HL_BC (s : State) : Result := addHL .BC s

/-- `DEC BC` (0x0B, R262). -/
def exec_dec_BC (s : State) : Result := decPair .BC s

/-- `INC DE` (0x13, R261). -/
def exec_inc_DE (s : State) : Result := incPair .DE s

/-- `ADD HL,DE` (0x19, R260). -/
def exec_add_HL_DE (s : State) : Result := addHL .DE s

/-- `DEC DE` (0x1B, R262). -/
def exec_dec_DE (s : State) : Result := decPair .DE s

/-- `INC HL` (0x23, R261). -/
def exec_inc_HL (s : State) : Result := incPair .HL s

/-- `ADD HL,HL` (0x29, R260). -/
def exec_add_HL_HL (s : State) : Result := addHL .HL s

/-- `DEC HL` (0x2B, R262). -/
def exec_dec_HL (s : State) : Result := decPair .HL s

/-- `INC SP` (0x33, R261). -/
def exec_inc_SP (s : State) : Result := incPair .SP s

/-- `ADD HL,SP` (0x39, R260). -/
def exec_add_HL_SP (s : State) : Result := addHL .SP s

/-- `DEC SP` (0x3B, R262). -/
def exec_dec_SP (s : State) : Result := decPair .SP s

/-- `ADD SP,e8` (0xE8, R263). -/
def exec_add_SP_e8 (e8 : Byte) (s : State) : Result := addSP e8 s

end Sys2Proof.Machine
end

