-- ==== Sys2Proof/Machine/Alu8.lean ====
section
/-! DEFINITION. 8-bit arithmetic and logic (41_alu8.md). The operations first, each with the cost of
R184; then one meaning per instruction. -/

namespace Sys2Proof.Machine

/-- One of the eight accumulator operations with the source value `b` (R231 to R238): the result goes
to A, except for CP. -/
def accumulate (op : AluOp) (b : Byte) (n : Nat) (s : State) : Result :=
  let r := aluOut op s.regs.a b (flagC s)
  done n (writeFlags (if op = .cp then s else setA s r.value) r.flags)

/-- The register and `(HL)` forms (R230): the source is read once, before the result is written. -/
def accumulateOpnd (op : AluOp) (o : Opnd8) (s : State) : Result :=
  let (b, s1) := readOpnd8 s o
  accumulate op b (opndCost 4 8 o) s1

/-- `INC r` and `INC (HL)` (R239, R240). -/
def incOpnd (o : Opnd8) (s : State) : Result :=
  let (old, s1) := readOpnd8 s o
  done (opndCost 4 12 o) (writeFlags (writeOpnd8 s1 (incOut old).value o) (incOut old).flags)

/-- `DEC r` and `DEC (HL)` (R241, R242). -/
def decOpnd (o : Opnd8) (s : State) : Result :=
  let (old, s1) := readOpnd8 s o
  done (opndCost 4 12 o) (writeFlags (writeOpnd8 s1 (decOut old).value o) (decOut old).flags)

/-- `DAA` (R243). -/
def decimalAdjust (s : State) : Result :=
  let r := daaOut s.regs.a (flagN s) (flagH s) (flagC s)
  done 4 (writeFlags (setA s r.value) r.flags)

/-- `CPL` (R244). -/
def complementA (s : State) : Result :=
  done 4 (writeFlags (setA s (~~~s.regs.a)) ⟨none, some true, some true, none⟩)

/-- `SCF` (R245). -/
def setCarry (s : State) : Result := done 4 (writeFlags s ⟨none, some false, some false, some true⟩)

/-- `CCF` (R246). -/
def complementCarry (s : State) : Result :=
  done 4 (writeFlags s ⟨none, some false, some false, some (!flagC s)⟩)

/-! ## The instructions -/

/-- `INC B` (0x04, R239). -/
def exec_inc_B (s : State) : Result := incOpnd (.reg .B) s

/-- `DEC B` (0x05, R241). -/
def exec_dec_B (s : State) : Result := decOpnd (.reg .B) s

/-- `INC C` (0x0C, R239). -/
def exec_inc_C (s : State) : Result := incOpnd (.reg .C) s

/-- `DEC C` (0x0D, R241). -/
def exec_dec_C (s : State) : Result := decOpnd (.reg .C) s

/-- `INC D` (0x14, R239). -/
def exec_inc_D (s : State) : Result := incOpnd (.reg .D) s

/-- `DEC D` (0x15, R241). -/
def exec_dec_D (s : State) : Result := decOpnd (.reg .D) s

/-- `INC E` (0x1C, R239). -/
def exec_inc_E (s : State) : Result := incOpnd (.reg .E) s

/-- `DEC E` (0x1D, R241). -/
def exec_dec_E (s : State) : Result := decOpnd (.reg .E) s

/-- `INC H` (0x24, R239). -/
def exec_inc_H (s : State) : Result := incOpnd (.reg .H) s

/-- `DEC H` (0x25, R241). -/
def exec_dec_H (s : State) : Result := decOpnd (.reg .H) s

/-- `DAA` (0x27, R243). -/
def exec_daa (s : State) : Result := decimalAdjust s

/-- `INC L` (0x2C, R239). -/
def exec_inc_L (s : State) : Result := incOpnd (.reg .L) s

/-- `DEC L` (0x2D, R241). -/
def exec_dec_L (s : State) : Result := decOpnd (.reg .L) s

/-- `CPL` (0x2F, R244). -/
def exec_cpl (s : State) : Result := complementA s

/-- `INC (HL)` (0x34, R240). -/
def exec_inc_mHL (s : State) : Result := incOpnd .mHL s

/-- `DEC (HL)` (0x35, R242). -/
def exec_dec_mHL (s : State) : Result := decOpnd .mHL s

/-- `SCF` (0x37, R245). -/
def exec_scf (s : State) : Result := setCarry s

/-- `INC A` (0x3C, R239). -/
def exec_inc_A (s : State) : Result := incOpnd (.reg .A) s

/-- `DEC A` (0x3D, R241). -/
def exec_dec_A (s : State) : Result := decOpnd (.reg .A) s

/-- `CCF` (0x3F, R246). -/
def exec_ccf (s : State) : Result := complementCarry s

/-- `ADD A,B` (0x80, R231). -/
def exec_add_A_B (s : State) : Result := accumulateOpnd .add (.reg .B) s

/-- `ADD A,C` (0x81, R231). -/
def exec_add_A_C (s : State) : Result := accumulateOpnd .add (.reg .C) s

/-- `ADD A,D` (0x82, R231). -/
def exec_add_A_D (s : State) : Result := accumulateOpnd .add (.reg .D) s

/-- `ADD A,E` (0x83, R231). -/
def exec_add_A_E (s : State) : Result := accumulateOpnd .add (.reg .E) s

/-- `ADD A,H` (0x84, R231). -/
def exec_add_A_H (s : State) : Result := accumulateOpnd .add (.reg .H) s

/-- `ADD A,L` (0x85, R231). -/
def exec_add_A_L (s : State) : Result := accumulateOpnd .add (.reg .L) s

/-- `ADD A,(HL)` (0x86, R231). -/
def exec_add_A_mHL (s : State) : Result := accumulateOpnd .add .mHL s

/-- `ADD A,A` (0x87, R231). -/
def exec_add_A_A (s : State) : Result := accumulateOpnd .add (.reg .A) s

/-- `ADC A,B` (0x88, R232). -/
def exec_adc_A_B (s : State) : Result := accumulateOpnd .adc (.reg .B) s

/-- `ADC A,C` (0x89, R232). -/
def exec_adc_A_C (s : State) : Result := accumulateOpnd .adc (.reg .C) s

/-- `ADC A,D` (0x8A, R232). -/
def exec_adc_A_D (s : State) : Result := accumulateOpnd .adc (.reg .D) s

/-- `ADC A,E` (0x8B, R232). -/
def exec_adc_A_E (s : State) : Result := accumulateOpnd .adc (.reg .E) s

/-- `ADC A,H` (0x8C, R232). -/
def exec_adc_A_H (s : State) : Result := accumulateOpnd .adc (.reg .H) s

/-- `ADC A,L` (0x8D, R232). -/
def exec_adc_A_L (s : State) : Result := accumulateOpnd .adc (.reg .L) s

/-- `ADC A,(HL)` (0x8E, R232). -/
def exec_adc_A_mHL (s : State) : Result := accumulateOpnd .adc .mHL s

/-- `ADC A,A` (0x8F, R232). -/
def exec_adc_A_A (s : State) : Result := accumulateOpnd .adc (.reg .A) s

/-- `SUB B` (0x90, R233). -/
def exec_sub_B (s : State) : Result := accumulateOpnd .sub (.reg .B) s

/-- `SUB C` (0x91, R233). -/
def exec_sub_C (s : State) : Result := accumulateOpnd .sub (.reg .C) s

/-- `SUB D` (0x92, R233). -/
def exec_sub_D (s : State) : Result := accumulateOpnd .sub (.reg .D) s

/-- `SUB E` (0x93, R233). -/
def exec_sub_E (s : State) : Result := accumulateOpnd .sub (.reg .E) s

/-- `SUB H` (0x94, R233). -/
def exec_sub_H (s : State) : Result := accumulateOpnd .sub (.reg .H) s

/-- `SUB L` (0x95, R233). -/
def exec_sub_L (s : State) : Result := accumulateOpnd .sub (.reg .L) s

/-- `SUB (HL)` (0x96, R233). -/
def exec_sub_mHL (s : State) : Result := accumulateOpnd .sub .mHL s

/-- `SUB A` (0x97, R233). -/
def exec_sub_A (s : State) : Result := accumulateOpnd .sub (.reg .A) s

/-- `SBC A,B` (0x98, R234). -/
def exec_sbc_A_B (s : State) : Result := accumulateOpnd .sbc (.reg .B) s

/-- `SBC A,C` (0x99, R234). -/
def exec_sbc_A_C (s : State) : Result := accumulateOpnd .sbc (.reg .C) s

/-- `SBC A,D` (0x9A, R234). -/
def exec_sbc_A_D (s : State) : Result := accumulateOpnd .sbc (.reg .D) s

/-- `SBC A,E` (0x9B, R234). -/
def exec_sbc_A_E (s : State) : Result := accumulateOpnd .sbc (.reg .E) s

/-- `SBC A,H` (0x9C, R234). -/
def exec_sbc_A_H (s : State) : Result := accumulateOpnd .sbc (.reg .H) s

/-- `SBC A,L` (0x9D, R234). -/
def exec_sbc_A_L (s : State) : Result := accumulateOpnd .sbc (.reg .L) s

/-- `SBC A,(HL)` (0x9E, R234). -/
def exec_sbc_A_mHL (s : State) : Result := accumulateOpnd .sbc .mHL s

/-- `SBC A,A` (0x9F, R234). -/
def exec_sbc_A_A (s : State) : Result := accumulateOpnd .sbc (.reg .A) s

/-- `AND B` (0xA0, R235). -/
def exec_and_B (s : State) : Result := accumulateOpnd .and (.reg .B) s

/-- `AND C` (0xA1, R235). -/
def exec_and_C (s : State) : Result := accumulateOpnd .and (.reg .C) s

/-- `AND D` (0xA2, R235). -/
def exec_and_D (s : State) : Result := accumulateOpnd .and (.reg .D) s

/-- `AND E` (0xA3, R235). -/
def exec_and_E (s : State) : Result := accumulateOpnd .and (.reg .E) s

/-- `AND H` (0xA4, R235). -/
def exec_and_H (s : State) : Result := accumulateOpnd .and (.reg .H) s

/-- `AND L` (0xA5, R235). -/
def exec_and_L (s : State) : Result := accumulateOpnd .and (.reg .L) s

/-- `AND (HL)` (0xA6, R235). -/
def exec_and_mHL (s : State) : Result := accumulateOpnd .and .mHL s

/-- `AND A` (0xA7, R235). -/
def exec_and_A (s : State) : Result := accumulateOpnd .and (.reg .A) s

/-- `XOR B` (0xA8, R236). -/
def exec_xor_B (s : State) : Result := accumulateOpnd .xor (.reg .B) s

/-- `XOR C` (0xA9, R236). -/
def exec_xor_C (s : State) : Result := accumulateOpnd .xor (.reg .C) s

/-- `XOR D` (0xAA, R236). -/
def exec_xor_D (s : State) : Result := accumulateOpnd .xor (.reg .D) s

/-- `XOR E` (0xAB, R236). -/
def exec_xor_E (s : State) : Result := accumulateOpnd .xor (.reg .E) s

/-- `XOR H` (0xAC, R236). -/
def exec_xor_H (s : State) : Result := accumulateOpnd .xor (.reg .H) s

/-- `XOR L` (0xAD, R236). -/
def exec_xor_L (s : State) : Result := accumulateOpnd .xor (.reg .L) s

/-- `XOR (HL)` (0xAE, R236). -/
def exec_xor_mHL (s : State) : Result := accumulateOpnd .xor .mHL s

/-- `XOR A` (0xAF, R236). -/
def exec_xor_A (s : State) : Result := accumulateOpnd .xor (.reg .A) s

/-- `OR B` (0xB0, R237). -/
def exec_or_B (s : State) : Result := accumulateOpnd .or (.reg .B) s

/-- `OR C` (0xB1, R237). -/
def exec_or_C (s : State) : Result := accumulateOpnd .or (.reg .C) s

/-- `OR D` (0xB2, R237). -/
def exec_or_D (s : State) : Result := accumulateOpnd .or (.reg .D) s

/-- `OR E` (0xB3, R237). -/
def exec_or_E (s : State) : Result := accumulateOpnd .or (.reg .E) s

/-- `OR H` (0xB4, R237). -/
def exec_or_H (s : State) : Result := accumulateOpnd .or (.reg .H) s

/-- `OR L` (0xB5, R237). -/
def exec_or_L (s : State) : Result := accumulateOpnd .or (.reg .L) s

/-- `OR (HL)` (0xB6, R237). -/
def exec_or_mHL (s : State) : Result := accumulateOpnd .or .mHL s

/-- `OR A` (0xB7, R237). -/
def exec_or_A (s : State) : Result := accumulateOpnd .or (.reg .A) s

/-- `CP B` (0xB8, R238). -/
def exec_cp_B (s : State) : Result := accumulateOpnd .cp (.reg .B) s

/-- `CP C` (0xB9, R238). -/
def exec_cp_C (s : State) : Result := accumulateOpnd .cp (.reg .C) s

/-- `CP D` (0xBA, R238). -/
def exec_cp_D (s : State) : Result := accumulateOpnd .cp (.reg .D) s

/-- `CP E` (0xBB, R238). -/
def exec_cp_E (s : State) : Result := accumulateOpnd .cp (.reg .E) s

/-- `CP H` (0xBC, R238). -/
def exec_cp_H (s : State) : Result := accumulateOpnd .cp (.reg .H) s

/-- `CP L` (0xBD, R238). -/
def exec_cp_L (s : State) : Result := accumulateOpnd .cp (.reg .L) s

/-- `CP (HL)` (0xBE, R238). -/
def exec_cp_mHL (s : State) : Result := accumulateOpnd .cp .mHL s

/-- `CP A` (0xBF, R238). -/
def exec_cp_A (s : State) : Result := accumulateOpnd .cp (.reg .A) s

/-- `ADD A,d8` (0xC6, R231). -/
def exec_add_A_d8 (d8 : Byte) (s : State) : Result := accumulate .add d8 8 s

/-- `ADC A,d8` (0xCE, R232). -/
def exec_adc_A_d8 (d8 : Byte) (s : State) : Result := accumulate .adc d8 8 s

/-- `SUB d8` (0xD6, R233). -/
def exec_sub_d8 (d8 : Byte) (s : State) : Result := accumulate .sub d8 8 s

/-- `SBC A,d8` (0xDE, R234). -/
def exec_sbc_A_d8 (d8 : Byte) (s : State) : Result := accumulate .sbc d8 8 s

/-- `AND d8` (0xE6, R235). -/
def exec_and_d8 (d8 : Byte) (s : State) : Result := accumulate .and d8 8 s

/-- `XOR d8` (0xEE, R236). -/
def exec_xor_d8 (d8 : Byte) (s : State) : Result := accumulate .xor d8 8 s

/-- `OR d8` (0xF6, R237). -/
def exec_or_d8 (d8 : Byte) (s : State) : Result := accumulate .or d8 8 s

/-- `CP d8` (0xFE, R238). -/
def exec_cp_d8 (d8 : Byte) (s : State) : Result := accumulate .cp d8 8 s

end Sys2Proof.Machine
end

