-- ==== Sys2Proof/Machine/Control.lean ====
section
/-! DEFINITION. Control transfers (44_control.md); PC is already past the whole instruction. -/

namespace Sys2Proof.Machine

/-- The target of a relative jump: PC plus the sign-extended displacement (R304). -/
def relative (s : State) (e : Byte) : Word := s.regs.pc + sext16 e

/-- `PC <- target` (R301, R303, R304). -/
def jump (a : Word) (n : Nat) (s : State) : Result := done n (setPC s a)

/-- `JP cc,a16` (R302). -/
def jumpIf (c : Cond) (a : Word) (s : State) : Result :=
  if condHolds s c = true then jump a 16 s else done 12 s

/-- `JR cc,e8` (R305). -/
def jumpRelativeIf (c : Cond) (e : Byte) (s : State) : Result :=
  if condHolds s c = true then jump (relative s e) 12 s else done 8 s

/-- `Push16(PC); PC <- target` (R306, R311). -/
def call (a : Word) (n : Nat) (s : State) : Result := done n (setPC (push16 s s.regs.pc) a)

/-- `CALL cc,a16` (R307). -/
def callIf (c : Cond) (a : Word) (s : State) : Result :=
  if condHolds s c = true then call a 24 s else done 12 s

/-- `PC <- Pop16()` (R308). -/
def ret (n : Nat) (s : State) : Result :=
  let (w, s1) := pop16 s
  done n (setPC s1 w)

/-- `RET cc` (R309). -/
def retIf (c : Cond) (s : State) : Result :=
  if condHolds s c = true then ret 20 s else done 8 s

/-! ## The instructions -/

/-- `JR e8` (0x18, R304). -/
def exec_jr_e8 (e8 : Byte) (s : State) : Result := jump (relative s e8) 12 s

/-- `JR NZ,e8` (0x20, R305). -/
def exec_jr_NZ_e8 (e8 : Byte) (s : State) : Result := jumpRelativeIf .NZ e8 s

/-- `JR Z,e8` (0x28, R305). -/
def exec_jr_Z_e8 (e8 : Byte) (s : State) : Result := jumpRelativeIf .Z e8 s

/-- `JR NC,e8` (0x30, R305). -/
def exec_jr_NC_e8 (e8 : Byte) (s : State) : Result := jumpRelativeIf .NC e8 s

/-- `JR C,e8` (0x38, R305). -/
def exec_jr_C_e8 (e8 : Byte) (s : State) : Result := jumpRelativeIf .C e8 s

/-- `RET NZ` (0xC0, R309). -/
def exec_ret_NZ (s : State) : Result := retIf .NZ s

/-- `JP NZ,a16` (0xC2, R302). -/
def exec_jp_NZ_a16 (a16 : Word) (s : State) : Result := jumpIf .NZ a16 s

/-- `JP a16` (0xC3, R301). -/
def exec_jp_a16 (a16 : Word) (s : State) : Result := jump a16 16 s

/-- `CALL NZ,a16` (0xC4, R307). -/
def exec_call_NZ_a16 (a16 : Word) (s : State) : Result := callIf .NZ a16 s

/-- `RST 0x00` (0xC7, R311). -/
def exec_rst_0x00 (s : State) : Result := call 0x0000#16 16 s

/-- `RET Z` (0xC8, R309). -/
def exec_ret_Z (s : State) : Result := retIf .Z s

/-- `RET` (0xC9, R308). -/
def exec_ret (s : State) : Result := ret 16 s

/-- `JP Z,a16` (0xCA, R302). -/
def exec_jp_Z_a16 (a16 : Word) (s : State) : Result := jumpIf .Z a16 s

/-- `CALL Z,a16` (0xCC, R307). -/
def exec_call_Z_a16 (a16 : Word) (s : State) : Result := callIf .Z a16 s

/-- `CALL a16` (0xCD, R306). -/
def exec_call_a16 (a16 : Word) (s : State) : Result := call a16 24 s

/-- `RST 0x08` (0xCF, R311). -/
def exec_rst_0x08 (s : State) : Result := call 0x0008#16 16 s

/-- `RET NC` (0xD0, R309). -/
def exec_ret_NC (s : State) : Result := retIf .NC s

/-- `JP NC,a16` (0xD2, R302). -/
def exec_jp_NC_a16 (a16 : Word) (s : State) : Result := jumpIf .NC a16 s

/-- `CALL NC,a16` (0xD4, R307). -/
def exec_call_NC_a16 (a16 : Word) (s : State) : Result := callIf .NC a16 s

/-- `RST 0x10` (0xD7, R311). -/
def exec_rst_0x10 (s : State) : Result := call 0x0010#16 16 s

/-- `RET C` (0xD8, R309). -/
def exec_ret_C (s : State) : Result := retIf .C s

/-- `RETI` (0xD9, R310). -/
def exec_reti (s : State) : Result := done 16 (returnFromInterrupt s)

/-- `JP C,a16` (0xDA, R302). -/
def exec_jp_C_a16 (a16 : Word) (s : State) : Result := jumpIf .C a16 s

/-- `CALL C,a16` (0xDC, R307). -/
def exec_call_C_a16 (a16 : Word) (s : State) : Result := callIf .C a16 s

/-- `RST 0x18` (0xDF, R311). -/
def exec_rst_0x18 (s : State) : Result := call 0x0018#16 16 s

/-- `RST 0x20` (0xE7, R311). -/
def exec_rst_0x20 (s : State) : Result := call 0x0020#16 16 s

/-- `JP HL` (0xE9, R303). -/
def exec_jp_HL (s : State) : Result := jump (getHL s) 4 s

/-- `RST 0x28` (0xEF, R311). -/
def exec_rst_0x28 (s : State) : Result := call 0x0028#16 16 s

/-- `RST 0x30` (0xF7, R311). -/
def exec_rst_0x30 (s : State) : Result := call 0x0030#16 16 s

/-- `RST 0x38` (0xFF, R311). -/
def exec_rst_0x38 (s : State) : Result := call 0x0038#16 16 s

end Sys2Proof.Machine
end

