-- ==== Sys2Proof/Machine/Loads.lean ====
section
/-! DEFINITION. Loads, stores and stack transfers (40_loads.md). The operations first, each with the
cost of R184; then one meaning per instruction. -/

namespace Sys2Proof.Machine

/-- `LD r,r'` and `LD r,(HL)` (R200, R202). -/
def loadReg (d : Reg8) (o : Opnd8) (s : State) : Result :=
  let (v, s1) := readOpnd8 s o
  done (opndCost 4 8 o) (setReg8 s1 v d)

/-- `LD r,d8` and `LD (HL),d8` (R201, R204). -/
def loadImm (o : Opnd8) (v : Byte) (s : State) : Result := done (opndCost 8 12 o) (writeOpnd8 s v o)

/-- `LD (HL),r` (R203). -/
def storeReg (r : Reg8) (s : State) : Result := done 8 (memWrite s (getHL s) (getReg8 s r))

/-- A load of A from address `a` (R205, R206, R209, R211, R213). -/
def loadA (a : Word) (n : Nat) (s : State) : Result :=
  let (v, s1) := busRead s a
  done n (setA s1 v)

/-- A store of A at address `a` (R207, R208, R210, R212, R214). -/
def storeA (a : Word) (n : Nat) (s : State) : Result := done n (memWrite s a s.regs.a)

/-- `LD A,(HL+)` and `LD A,(HL-)`, HL moved by `d` after the read (R216, R218). -/
def loadAStep (d : Word) (s : State) : Result :=
  let (v, s1) := busRead s (getHL s)
  done 8 (setHL (setA s1 v) (getHL s + d))

/-- `LD (HL+),A` and `LD (HL-),A`, HL moved by `d` after the write (R215, R217). -/
def storeAStep (d : Word) (s : State) : Result :=
  done 8 (setHL (memWrite s (getHL s) s.regs.a) (getHL s + d))

/-- `LD rr,d16` (R219). -/
def loadPair (p : Reg16) (w : Word) (s : State) : Result := done 12 (setReg16 s w p)

/-- `LD (a16),SP`, the low byte first (R225). -/
def storeSP (a : Word) (s : State) : Result :=
  done 20 (memWrite (memWrite s a (loByte s.regs.sp)) (a + 1#16) (hiByte s.regs.sp))

/-- `LD SP,HL` (R226). -/
def loadSPFromHL (s : State) : Result := done 8 (setSP s (getHL s))

/-- `LD HL,SP+e8` (R227). -/
def loadHLFromSP (e : Byte) (s : State) : Result :=
  done 12 (writeFlags (setHL s (s.regs.sp + sext16 e)) (addSPFlags s.regs.sp e))

/-- `PUSH qq` (R223). -/
def pushPair (q : StackReg) (s : State) : Result := done 16 (push16 s (getStackReg s q))

/-- `POP qq` (R222, R224). -/
def popPair (q : StackReg) (s : State) : Result :=
  let (w, s1) := pop16 s
  done 12 (setStackReg s1 w q)

/-! ## The instructions -/

/-- `LD BC,d16` (0x01, R219). -/
def exec_ld_BC_d16 (d16 : Word) (s : State) : Result := loadPair .BC d16 s

/-- `LD (BC),A` (0x02, R207). -/
def exec_ld_mBC_A (s : State) : Result := storeA (getReg16 s .BC) 8 s

/-- `LD B,d8` (0x06, R201). -/
def exec_ld_B_d8 (d8 : Byte) (s : State) : Result := loadImm (.reg .B) d8 s

/-- `LD (a16),SP` (0x08, R225). -/
def exec_ld_mA16_SP (a16 : Word) (s : State) : Result := storeSP a16 s

/-- `LD A,(BC)` (0x0A, R205). -/
def exec_ld_A_mBC (s : State) : Result := loadA (getReg16 s .BC) 8 s

/-- `LD C,d8` (0x0E, R201). -/
def exec_ld_C_d8 (d8 : Byte) (s : State) : Result := loadImm (.reg .C) d8 s

/-- `LD DE,d16` (0x11, R219). -/
def exec_ld_DE_d16 (d16 : Word) (s : State) : Result := loadPair .DE d16 s

/-- `LD (DE),A` (0x12, R208). -/
def exec_ld_mDE_A (s : State) : Result := storeA (getReg16 s .DE) 8 s

/-- `LD D,d8` (0x16, R201). -/
def exec_ld_D_d8 (d8 : Byte) (s : State) : Result := loadImm (.reg .D) d8 s

/-- `LD A,(DE)` (0x1A, R206). -/
def exec_ld_A_mDE (s : State) : Result := loadA (getReg16 s .DE) 8 s

/-- `LD E,d8` (0x1E, R201). -/
def exec_ld_E_d8 (d8 : Byte) (s : State) : Result := loadImm (.reg .E) d8 s

/-- `LD HL,d16` (0x21, R219). -/
def exec_ld_HL_d16 (d16 : Word) (s : State) : Result := loadPair .HL d16 s

/-- `LD (HL+),A` (0x22, R215). -/
def exec_ld_mHLI_A (s : State) : Result := storeAStep 1#16 s

/-- `LD H,d8` (0x26, R201). -/
def exec_ld_H_d8 (d8 : Byte) (s : State) : Result := loadImm (.reg .H) d8 s

/-- `LD A,(HL+)` (0x2A, R216). -/
def exec_ld_A_mHLI (s : State) : Result := loadAStep 1#16 s

/-- `LD L,d8` (0x2E, R201). -/
def exec_ld_L_d8 (d8 : Byte) (s : State) : Result := loadImm (.reg .L) d8 s

/-- `LD SP,d16` (0x31, R219). -/
def exec_ld_SP_d16 (d16 : Word) (s : State) : Result := loadPair .SP d16 s

/-- `LD (HL-),A` (0x32, R217). -/
def exec_ld_mHLD_A (s : State) : Result := storeAStep (-1#16) s

/-- `LD (HL),d8` (0x36, R204). -/
def exec_ld_mHL_d8 (d8 : Byte) (s : State) : Result := loadImm .mHL d8 s

/-- `LD A,(HL-)` (0x3A, R218). -/
def exec_ld_A_mHLD (s : State) : Result := loadAStep (-1#16) s

/-- `LD A,d8` (0x3E, R201). -/
def exec_ld_A_d8 (d8 : Byte) (s : State) : Result := loadImm (.reg .A) d8 s

/-- `LD B,B` (0x40, R200). -/
def exec_ld_B_B (s : State) : Result := loadReg .B (.reg .B) s

/-- `LD B,C` (0x41, R200). -/
def exec_ld_B_C (s : State) : Result := loadReg .B (.reg .C) s

/-- `LD B,D` (0x42, R200). -/
def exec_ld_B_D (s : State) : Result := loadReg .B (.reg .D) s

/-- `LD B,E` (0x43, R200). -/
def exec_ld_B_E (s : State) : Result := loadReg .B (.reg .E) s

/-- `LD B,H` (0x44, R200). -/
def exec_ld_B_H (s : State) : Result := loadReg .B (.reg .H) s

/-- `LD B,L` (0x45, R200). -/
def exec_ld_B_L (s : State) : Result := loadReg .B (.reg .L) s

/-- `LD B,(HL)` (0x46, R202). -/
def exec_ld_B_mHL (s : State) : Result := loadReg .B .mHL s

/-- `LD B,A` (0x47, R200). -/
def exec_ld_B_A (s : State) : Result := loadReg .B (.reg .A) s

/-- `LD C,B` (0x48, R200). -/
def exec_ld_C_B (s : State) : Result := loadReg .C (.reg .B) s

/-- `LD C,C` (0x49, R200). -/
def exec_ld_C_C (s : State) : Result := loadReg .C (.reg .C) s

/-- `LD C,D` (0x4A, R200). -/
def exec_ld_C_D (s : State) : Result := loadReg .C (.reg .D) s

/-- `LD C,E` (0x4B, R200). -/
def exec_ld_C_E (s : State) : Result := loadReg .C (.reg .E) s

/-- `LD C,H` (0x4C, R200). -/
def exec_ld_C_H (s : State) : Result := loadReg .C (.reg .H) s

/-- `LD C,L` (0x4D, R200). -/
def exec_ld_C_L (s : State) : Result := loadReg .C (.reg .L) s

/-- `LD C,(HL)` (0x4E, R202). -/
def exec_ld_C_mHL (s : State) : Result := loadReg .C .mHL s

/-- `LD C,A` (0x4F, R200). -/
def exec_ld_C_A (s : State) : Result := loadReg .C (.reg .A) s

/-- `LD D,B` (0x50, R200). -/
def exec_ld_D_B (s : State) : Result := loadReg .D (.reg .B) s

/-- `LD D,C` (0x51, R200). -/
def exec_ld_D_C (s : State) : Result := loadReg .D (.reg .C) s

/-- `LD D,D` (0x52, R200). -/
def exec_ld_D_D (s : State) : Result := loadReg .D (.reg .D) s

/-- `LD D,E` (0x53, R200). -/
def exec_ld_D_E (s : State) : Result := loadReg .D (.reg .E) s

/-- `LD D,H` (0x54, R200). -/
def exec_ld_D_H (s : State) : Result := loadReg .D (.reg .H) s

/-- `LD D,L` (0x55, R200). -/
def exec_ld_D_L (s : State) : Result := loadReg .D (.reg .L) s

/-- `LD D,(HL)` (0x56, R202). -/
def exec_ld_D_mHL (s : State) : Result := loadReg .D .mHL s

/-- `LD D,A` (0x57, R200). -/
def exec_ld_D_A (s : State) : Result := loadReg .D (.reg .A) s

/-- `LD E,B` (0x58, R200). -/
def exec_ld_E_B (s : State) : Result := loadReg .E (.reg .B) s

/-- `LD E,C` (0x59, R200). -/
def exec_ld_E_C (s : State) : Result := loadReg .E (.reg .C) s

/-- `LD E,D` (0x5A, R200). -/
def exec_ld_E_D (s : State) : Result := loadReg .E (.reg .D) s

/-- `LD E,E` (0x5B, R200). -/
def exec_ld_E_E (s : State) : Result := loadReg .E (.reg .E) s

/-- `LD E,H` (0x5C, R200). -/
def exec_ld_E_H (s : State) : Result := loadReg .E (.reg .H) s

/-- `LD E,L` (0x5D, R200). -/
def exec_ld_E_L (s : State) : Result := loadReg .E (.reg .L) s

/-- `LD E,(HL)` (0x5E, R202). -/
def exec_ld_E_mHL (s : State) : Result := loadReg .E .mHL s

/-- `LD E,A` (0x5F, R200). -/
def exec_ld_E_A (s : State) : Result := loadReg .E (.reg .A) s

/-- `LD H,B` (0x60, R200). -/
def exec_ld_H_B (s : State) : Result := loadReg .H (.reg .B) s

/-- `LD H,C` (0x61, R200). -/
def exec_ld_H_C (s : State) : Result := loadReg .H (.reg .C) s

/-- `LD H,D` (0x62, R200). -/
def exec_ld_H_D (s : State) : Result := loadReg .H (.reg .D) s

/-- `LD H,E` (0x63, R200). -/
def exec_ld_H_E (s : State) : Result := loadReg .H (.reg .E) s

/-- `LD H,H` (0x64, R200). -/
def exec_ld_H_H (s : State) : Result := loadReg .H (.reg .H) s

/-- `LD H,L` (0x65, R200). -/
def exec_ld_H_L (s : State) : Result := loadReg .H (.reg .L) s

/-- `LD H,(HL)` (0x66, R202). -/
def exec_ld_H_mHL (s : State) : Result := loadReg .H .mHL s

/-- `LD H,A` (0x67, R200). -/
def exec_ld_H_A (s : State) : Result := loadReg .H (.reg .A) s

/-- `LD L,B` (0x68, R200). -/
def exec_ld_L_B (s : State) : Result := loadReg .L (.reg .B) s

/-- `LD L,C` (0x69, R200). -/
def exec_ld_L_C (s : State) : Result := loadReg .L (.reg .C) s

/-- `LD L,D` (0x6A, R200). -/
def exec_ld_L_D (s : State) : Result := loadReg .L (.reg .D) s

/-- `LD L,E` (0x6B, R200). -/
def exec_ld_L_E (s : State) : Result := loadReg .L (.reg .E) s

/-- `LD L,H` (0x6C, R200). -/
def exec_ld_L_H (s : State) : Result := loadReg .L (.reg .H) s

/-- `LD L,L` (0x6D, R200). -/
def exec_ld_L_L (s : State) : Result := loadReg .L (.reg .L) s

/-- `LD L,(HL)` (0x6E, R202). -/
def exec_ld_L_mHL (s : State) : Result := loadReg .L .mHL s

/-- `LD L,A` (0x6F, R200). -/
def exec_ld_L_A (s : State) : Result := loadReg .L (.reg .A) s

/-- `LD (HL),B` (0x70, R203). -/
def exec_ld_mHL_B (s : State) : Result := storeReg .B s

/-- `LD (HL),C` (0x71, R203). -/
def exec_ld_mHL_C (s : State) : Result := storeReg .C s

/-- `LD (HL),D` (0x72, R203). -/
def exec_ld_mHL_D (s : State) : Result := storeReg .D s

/-- `LD (HL),E` (0x73, R203). -/
def exec_ld_mHL_E (s : State) : Result := storeReg .E s

/-- `LD (HL),H` (0x74, R203). -/
def exec_ld_mHL_H (s : State) : Result := storeReg .H s

/-- `LD (HL),L` (0x75, R203). -/
def exec_ld_mHL_L (s : State) : Result := storeReg .L s

/-- `LD (HL),A` (0x77, R203). -/
def exec_ld_mHL_A (s : State) : Result := storeReg .A s

/-- `LD A,B` (0x78, R200). -/
def exec_ld_A_B (s : State) : Result := loadReg .A (.reg .B) s

/-- `LD A,C` (0x79, R200). -/
def exec_ld_A_C (s : State) : Result := loadReg .A (.reg .C) s

/-- `LD A,D` (0x7A, R200). -/
def exec_ld_A_D (s : State) : Result := loadReg .A (.reg .D) s

/-- `LD A,E` (0x7B, R200). -/
def exec_ld_A_E (s : State) : Result := loadReg .A (.reg .E) s

/-- `LD A,H` (0x7C, R200). -/
def exec_ld_A_H (s : State) : Result := loadReg .A (.reg .H) s

/-- `LD A,L` (0x7D, R200). -/
def exec_ld_A_L (s : State) : Result := loadReg .A (.reg .L) s

/-- `LD A,(HL)` (0x7E, R202). -/
def exec_ld_A_mHL (s : State) : Result := loadReg .A .mHL s

/-- `LD A,A` (0x7F, R200). -/
def exec_ld_A_A (s : State) : Result := loadReg .A (.reg .A) s

/-- `POP BC` (0xC1, R224). -/
def exec_pop_BC (s : State) : Result := popPair .BC s

/-- `PUSH BC` (0xC5, R223). -/
def exec_push_BC (s : State) : Result := pushPair .BC s

/-- `POP DE` (0xD1, R224). -/
def exec_pop_DE (s : State) : Result := popPair .DE s

/-- `PUSH DE` (0xD5, R223). -/
def exec_push_DE (s : State) : Result := pushPair .DE s

/-- `LDH (a8),A` (0xE0, R212). -/
def exec_ldh_mA8_A (a8 : Byte) (s : State) : Result := storeA (highPage a8) 12 s

/-- `POP HL` (0xE1, R224). -/
def exec_pop_HL (s : State) : Result := popPair .HL s

/-- `LD (C),A` (0xE2, R214). -/
def exec_ld_mC_A (s : State) : Result := storeA (highPage s.regs.c) 8 s

/-- `PUSH HL` (0xE5, R223). -/
def exec_push_HL (s : State) : Result := pushPair .HL s

/-- `LD (a16),A` (0xEA, R210). -/
def exec_ld_mA16_A (a16 : Word) (s : State) : Result := storeA a16 16 s

/-- `LDH A,(a8)` (0xF0, R211). -/
def exec_ldh_A_mA8 (a8 : Byte) (s : State) : Result := loadA (highPage a8) 12 s

/-- `POP AF` (0xF1, R222). -/
def exec_pop_AF (s : State) : Result := popPair .AF s

/-- `LD A,(C)` (0xF2, R213). -/
def exec_ld_A_mC (s : State) : Result := loadA (highPage s.regs.c) 8 s

/-- `PUSH AF` (0xF5, R223). -/
def exec_push_AF (s : State) : Result := pushPair .AF s

/-- `LD HL,SP+e8` (0xF8, R227). -/
def exec_ld_HL_SPe8 (e8 : Byte) (s : State) : Result := loadHLFromSP e8 s

/-- `LD SP,HL` (0xF9, R226). -/
def exec_ld_SP_HL (s : State) : Result := loadSPFromHL s

/-- `LD A,(a16)` (0xFA, R209). -/
def exec_ld_A_mA16 (a16 : Word) (s : State) : Result := loadA a16 16 s

end Sys2Proof.Machine
end

