-- ==== Sys2Proof/Machine/RotateBit.lean ====
section
/-! DEFINITION. Rotates, shifts and bit operations (43_rotate_bit.md). -/

namespace Sys2Proof.Machine

/-- The accumulator rotates (R270 to R273). -/
def rotateA (op : ShiftOp) (s : State) : Result :=
  let r := rotateAOut op s.regs.a (flagC s)
  done 4 (writeFlags (setA s r.value) r.flags)

/-- An extended rotate, shift or swap (R274 to R282). -/
def shiftOpnd (op : ShiftOp) (o : Opnd8) (s : State) : Result :=
  let (x, s1) := readOpnd8 s o
  let r := shiftOut op x (flagC s)
  done (opndCost 8 16 o) (writeFlags (writeOpnd8 s1 r.value o) r.flags)

/-- `BIT b,r`: the operand is not written (R283). -/
def bitOpnd (b : Fin 8) (o : Opnd8) (s : State) : Result :=
  let (x, s1) := readOpnd8 s o
  done (opndCost 8 12 o) (writeFlags s1 (bitFlags b x))

/-- `RES b,r`: the write happens even when the bit is already 0 (R284). -/
def resOpnd (b : Fin 8) (o : Opnd8) (s : State) : Result :=
  let (x, s1) := readOpnd8 s o
  done (opndCost 8 16 o) (writeOpnd8 s1 (x &&& ~~~bitMask b) o)

/-- `SET b,r` (R285). -/
def setOpnd (b : Fin 8) (o : Opnd8) (s : State) : Result :=
  let (x, s1) := readOpnd8 s o
  done (opndCost 8 16 o) (writeOpnd8 s1 (x ||| bitMask b) o)

/-! ## The instructions -/

/-- `RLCA` (0x07, R270). -/
def exec_rlca (s : State) : Result := rotateA .rlc s

/-- `RRCA` (0x0F, R271). -/
def exec_rrca (s : State) : Result := rotateA .rrc s

/-- `RLA` (0x17, R272). -/
def exec_rla (s : State) : Result := rotateA .rl s

/-- `RRA` (0x1F, R273). -/
def exec_rra (s : State) : Result := rotateA .rr s

/-- `RLC B` (0xCB 0x00, R275). -/
def exec_rlc_B (s : State) : Result := shiftOpnd .rlc (.reg .B) s

/-- `RLC C` (0xCB 0x01, R275). -/
def exec_rlc_C (s : State) : Result := shiftOpnd .rlc (.reg .C) s

/-- `RLC D` (0xCB 0x02, R275). -/
def exec_rlc_D (s : State) : Result := shiftOpnd .rlc (.reg .D) s

/-- `RLC E` (0xCB 0x03, R275). -/
def exec_rlc_E (s : State) : Result := shiftOpnd .rlc (.reg .E) s

/-- `RLC H` (0xCB 0x04, R275). -/
def exec_rlc_H (s : State) : Result := shiftOpnd .rlc (.reg .H) s

/-- `RLC L` (0xCB 0x05, R275). -/
def exec_rlc_L (s : State) : Result := shiftOpnd .rlc (.reg .L) s

/-- `RLC (HL)` (0xCB 0x06, R275). -/
def exec_rlc_mHL (s : State) : Result := shiftOpnd .rlc .mHL s

/-- `RLC A` (0xCB 0x07, R275). -/
def exec_rlc_A (s : State) : Result := shiftOpnd .rlc (.reg .A) s

/-- `RRC B` (0xCB 0x08, R276). -/
def exec_rrc_B (s : State) : Result := shiftOpnd .rrc (.reg .B) s

/-- `RRC C` (0xCB 0x09, R276). -/
def exec_rrc_C (s : State) : Result := shiftOpnd .rrc (.reg .C) s

/-- `RRC D` (0xCB 0x0A, R276). -/
def exec_rrc_D (s : State) : Result := shiftOpnd .rrc (.reg .D) s

/-- `RRC E` (0xCB 0x0B, R276). -/
def exec_rrc_E (s : State) : Result := shiftOpnd .rrc (.reg .E) s

/-- `RRC H` (0xCB 0x0C, R276). -/
def exec_rrc_H (s : State) : Result := shiftOpnd .rrc (.reg .H) s

/-- `RRC L` (0xCB 0x0D, R276). -/
def exec_rrc_L (s : State) : Result := shiftOpnd .rrc (.reg .L) s

/-- `RRC (HL)` (0xCB 0x0E, R276). -/
def exec_rrc_mHL (s : State) : Result := shiftOpnd .rrc .mHL s

/-- `RRC A` (0xCB 0x0F, R276). -/
def exec_rrc_A (s : State) : Result := shiftOpnd .rrc (.reg .A) s

/-- `RL B` (0xCB 0x10, R277). -/
def exec_rl_B (s : State) : Result := shiftOpnd .rl (.reg .B) s

/-- `RL C` (0xCB 0x11, R277). -/
def exec_rl_C (s : State) : Result := shiftOpnd .rl (.reg .C) s

/-- `RL D` (0xCB 0x12, R277). -/
def exec_rl_D (s : State) : Result := shiftOpnd .rl (.reg .D) s

/-- `RL E` (0xCB 0x13, R277). -/
def exec_rl_E (s : State) : Result := shiftOpnd .rl (.reg .E) s

/-- `RL H` (0xCB 0x14, R277). -/
def exec_rl_H (s : State) : Result := shiftOpnd .rl (.reg .H) s

/-- `RL L` (0xCB 0x15, R277). -/
def exec_rl_L (s : State) : Result := shiftOpnd .rl (.reg .L) s

/-- `RL (HL)` (0xCB 0x16, R277). -/
def exec_rl_mHL (s : State) : Result := shiftOpnd .rl .mHL s

/-- `RL A` (0xCB 0x17, R277). -/
def exec_rl_A (s : State) : Result := shiftOpnd .rl (.reg .A) s

/-- `RR B` (0xCB 0x18, R278). -/
def exec_rr_B (s : State) : Result := shiftOpnd .rr (.reg .B) s

/-- `RR C` (0xCB 0x19, R278). -/
def exec_rr_C (s : State) : Result := shiftOpnd .rr (.reg .C) s

/-- `RR D` (0xCB 0x1A, R278). -/
def exec_rr_D (s : State) : Result := shiftOpnd .rr (.reg .D) s

/-- `RR E` (0xCB 0x1B, R278). -/
def exec_rr_E (s : State) : Result := shiftOpnd .rr (.reg .E) s

/-- `RR H` (0xCB 0x1C, R278). -/
def exec_rr_H (s : State) : Result := shiftOpnd .rr (.reg .H) s

/-- `RR L` (0xCB 0x1D, R278). -/
def exec_rr_L (s : State) : Result := shiftOpnd .rr (.reg .L) s

/-- `RR (HL)` (0xCB 0x1E, R278). -/
def exec_rr_mHL (s : State) : Result := shiftOpnd .rr .mHL s

/-- `RR A` (0xCB 0x1F, R278). -/
def exec_rr_A (s : State) : Result := shiftOpnd .rr (.reg .A) s

/-- `SLA B` (0xCB 0x20, R279). -/
def exec_sla_B (s : State) : Result := shiftOpnd .sla (.reg .B) s

/-- `SLA C` (0xCB 0x21, R279). -/
def exec_sla_C (s : State) : Result := shiftOpnd .sla (.reg .C) s

/-- `SLA D` (0xCB 0x22, R279). -/
def exec_sla_D (s : State) : Result := shiftOpnd .sla (.reg .D) s

/-- `SLA E` (0xCB 0x23, R279). -/
def exec_sla_E (s : State) : Result := shiftOpnd .sla (.reg .E) s

/-- `SLA H` (0xCB 0x24, R279). -/
def exec_sla_H (s : State) : Result := shiftOpnd .sla (.reg .H) s

/-- `SLA L` (0xCB 0x25, R279). -/
def exec_sla_L (s : State) : Result := shiftOpnd .sla (.reg .L) s

/-- `SLA (HL)` (0xCB 0x26, R279). -/
def exec_sla_mHL (s : State) : Result := shiftOpnd .sla .mHL s

/-- `SLA A` (0xCB 0x27, R279). -/
def exec_sla_A (s : State) : Result := shiftOpnd .sla (.reg .A) s

/-- `SRA B` (0xCB 0x28, R280). -/
def exec_sra_B (s : State) : Result := shiftOpnd .sra (.reg .B) s

/-- `SRA C` (0xCB 0x29, R280). -/
def exec_sra_C (s : State) : Result := shiftOpnd .sra (.reg .C) s

/-- `SRA D` (0xCB 0x2A, R280). -/
def exec_sra_D (s : State) : Result := shiftOpnd .sra (.reg .D) s

/-- `SRA E` (0xCB 0x2B, R280). -/
def exec_sra_E (s : State) : Result := shiftOpnd .sra (.reg .E) s

/-- `SRA H` (0xCB 0x2C, R280). -/
def exec_sra_H (s : State) : Result := shiftOpnd .sra (.reg .H) s

/-- `SRA L` (0xCB 0x2D, R280). -/
def exec_sra_L (s : State) : Result := shiftOpnd .sra (.reg .L) s

/-- `SRA (HL)` (0xCB 0x2E, R280). -/
def exec_sra_mHL (s : State) : Result := shiftOpnd .sra .mHL s

/-- `SRA A` (0xCB 0x2F, R280). -/
def exec_sra_A (s : State) : Result := shiftOpnd .sra (.reg .A) s

/-- `SWAP B` (0xCB 0x30, R281). -/
def exec_swap_B (s : State) : Result := shiftOpnd .swap (.reg .B) s

/-- `SWAP C` (0xCB 0x31, R281). -/
def exec_swap_C (s : State) : Result := shiftOpnd .swap (.reg .C) s

/-- `SWAP D` (0xCB 0x32, R281). -/
def exec_swap_D (s : State) : Result := shiftOpnd .swap (.reg .D) s

/-- `SWAP E` (0xCB 0x33, R281). -/
def exec_swap_E (s : State) : Result := shiftOpnd .swap (.reg .E) s

/-- `SWAP H` (0xCB 0x34, R281). -/
def exec_swap_H (s : State) : Result := shiftOpnd .swap (.reg .H) s

/-- `SWAP L` (0xCB 0x35, R281). -/
def exec_swap_L (s : State) : Result := shiftOpnd .swap (.reg .L) s

/-- `SWAP (HL)` (0xCB 0x36, R281). -/
def exec_swap_mHL (s : State) : Result := shiftOpnd .swap .mHL s

/-- `SWAP A` (0xCB 0x37, R281). -/
def exec_swap_A (s : State) : Result := shiftOpnd .swap (.reg .A) s

/-- `SRL B` (0xCB 0x38, R282). -/
def exec_srl_B (s : State) : Result := shiftOpnd .srl (.reg .B) s

/-- `SRL C` (0xCB 0x39, R282). -/
def exec_srl_C (s : State) : Result := shiftOpnd .srl (.reg .C) s

/-- `SRL D` (0xCB 0x3A, R282). -/
def exec_srl_D (s : State) : Result := shiftOpnd .srl (.reg .D) s

/-- `SRL E` (0xCB 0x3B, R282). -/
def exec_srl_E (s : State) : Result := shiftOpnd .srl (.reg .E) s

/-- `SRL H` (0xCB 0x3C, R282). -/
def exec_srl_H (s : State) : Result := shiftOpnd .srl (.reg .H) s

/-- `SRL L` (0xCB 0x3D, R282). -/
def exec_srl_L (s : State) : Result := shiftOpnd .srl (.reg .L) s

/-- `SRL (HL)` (0xCB 0x3E, R282). -/
def exec_srl_mHL (s : State) : Result := shiftOpnd .srl .mHL s

/-- `SRL A` (0xCB 0x3F, R282). -/
def exec_srl_A (s : State) : Result := shiftOpnd .srl (.reg .A) s

/-- `BIT 0,B` (0xCB 0x40, R283). -/
def exec_bit_0_B (s : State) : Result := bitOpnd 0 (.reg .B) s

/-- `BIT 0,C` (0xCB 0x41, R283). -/
def exec_bit_0_C (s : State) : Result := bitOpnd 0 (.reg .C) s

/-- `BIT 0,D` (0xCB 0x42, R283). -/
def exec_bit_0_D (s : State) : Result := bitOpnd 0 (.reg .D) s

/-- `BIT 0,E` (0xCB 0x43, R283). -/
def exec_bit_0_E (s : State) : Result := bitOpnd 0 (.reg .E) s

/-- `BIT 0,H` (0xCB 0x44, R283). -/
def exec_bit_0_H (s : State) : Result := bitOpnd 0 (.reg .H) s

/-- `BIT 0,L` (0xCB 0x45, R283). -/
def exec_bit_0_L (s : State) : Result := bitOpnd 0 (.reg .L) s

/-- `BIT 0,(HL)` (0xCB 0x46, R283). -/
def exec_bit_0_mHL (s : State) : Result := bitOpnd 0 .mHL s

/-- `BIT 0,A` (0xCB 0x47, R283). -/
def exec_bit_0_A (s : State) : Result := bitOpnd 0 (.reg .A) s

/-- `BIT 1,B` (0xCB 0x48, R283). -/
def exec_bit_1_B (s : State) : Result := bitOpnd 1 (.reg .B) s

/-- `BIT 1,C` (0xCB 0x49, R283). -/
def exec_bit_1_C (s : State) : Result := bitOpnd 1 (.reg .C) s

/-- `BIT 1,D` (0xCB 0x4A, R283). -/
def exec_bit_1_D (s : State) : Result := bitOpnd 1 (.reg .D) s

/-- `BIT 1,E` (0xCB 0x4B, R283). -/
def exec_bit_1_E (s : State) : Result := bitOpnd 1 (.reg .E) s

/-- `BIT 1,H` (0xCB 0x4C, R283). -/
def exec_bit_1_H (s : State) : Result := bitOpnd 1 (.reg .H) s

/-- `BIT 1,L` (0xCB 0x4D, R283). -/
def exec_bit_1_L (s : State) : Result := bitOpnd 1 (.reg .L) s

/-- `BIT 1,(HL)` (0xCB 0x4E, R283). -/
def exec_bit_1_mHL (s : State) : Result := bitOpnd 1 .mHL s

/-- `BIT 1,A` (0xCB 0x4F, R283). -/
def exec_bit_1_A (s : State) : Result := bitOpnd 1 (.reg .A) s

/-- `BIT 2,B` (0xCB 0x50, R283). -/
def exec_bit_2_B (s : State) : Result := bitOpnd 2 (.reg .B) s

/-- `BIT 2,C` (0xCB 0x51, R283). -/
def exec_bit_2_C (s : State) : Result := bitOpnd 2 (.reg .C) s

/-- `BIT 2,D` (0xCB 0x52, R283). -/
def exec_bit_2_D (s : State) : Result := bitOpnd 2 (.reg .D) s

/-- `BIT 2,E` (0xCB 0x53, R283). -/
def exec_bit_2_E (s : State) : Result := bitOpnd 2 (.reg .E) s

/-- `BIT 2,H` (0xCB 0x54, R283). -/
def exec_bit_2_H (s : State) : Result := bitOpnd 2 (.reg .H) s

/-- `BIT 2,L` (0xCB 0x55, R283). -/
def exec_bit_2_L (s : State) : Result := bitOpnd 2 (.reg .L) s

/-- `BIT 2,(HL)` (0xCB 0x56, R283). -/
def exec_bit_2_mHL (s : State) : Result := bitOpnd 2 .mHL s

/-- `BIT 2,A` (0xCB 0x57, R283). -/
def exec_bit_2_A (s : State) : Result := bitOpnd 2 (.reg .A) s

/-- `BIT 3,B` (0xCB 0x58, R283). -/
def exec_bit_3_B (s : State) : Result := bitOpnd 3 (.reg .B) s

/-- `BIT 3,C` (0xCB 0x59, R283). -/
def exec_bit_3_C (s : State) : Result := bitOpnd 3 (.reg .C) s

/-- `BIT 3,D` (0xCB 0x5A, R283). -/
def exec_bit_3_D (s : State) : Result := bitOpnd 3 (.reg .D) s

/-- `BIT 3,E` (0xCB 0x5B, R283). -/
def exec_bit_3_E (s : State) : Result := bitOpnd 3 (.reg .E) s

/-- `BIT 3,H` (0xCB 0x5C, R283). -/
def exec_bit_3_H (s : State) : Result := bitOpnd 3 (.reg .H) s

/-- `BIT 3,L` (0xCB 0x5D, R283). -/
def exec_bit_3_L (s : State) : Result := bitOpnd 3 (.reg .L) s

/-- `BIT 3,(HL)` (0xCB 0x5E, R283). -/
def exec_bit_3_mHL (s : State) : Result := bitOpnd 3 .mHL s

/-- `BIT 3,A` (0xCB 0x5F, R283). -/
def exec_bit_3_A (s : State) : Result := bitOpnd 3 (.reg .A) s

/-- `BIT 4,B` (0xCB 0x60, R283). -/
def exec_bit_4_B (s : State) : Result := bitOpnd 4 (.reg .B) s

/-- `BIT 4,C` (0xCB 0x61, R283). -/
def exec_bit_4_C (s : State) : Result := bitOpnd 4 (.reg .C) s

/-- `BIT 4,D` (0xCB 0x62, R283). -/
def exec_bit_4_D (s : State) : Result := bitOpnd 4 (.reg .D) s

/-- `BIT 4,E` (0xCB 0x63, R283). -/
def exec_bit_4_E (s : State) : Result := bitOpnd 4 (.reg .E) s

/-- `BIT 4,H` (0xCB 0x64, R283). -/
def exec_bit_4_H (s : State) : Result := bitOpnd 4 (.reg .H) s

/-- `BIT 4,L` (0xCB 0x65, R283). -/
def exec_bit_4_L (s : State) : Result := bitOpnd 4 (.reg .L) s

/-- `BIT 4,(HL)` (0xCB 0x66, R283). -/
def exec_bit_4_mHL (s : State) : Result := bitOpnd 4 .mHL s

/-- `BIT 4,A` (0xCB 0x67, R283). -/
def exec_bit_4_A (s : State) : Result := bitOpnd 4 (.reg .A) s

/-- `BIT 5,B` (0xCB 0x68, R283). -/
def exec_bit_5_B (s : State) : Result := bitOpnd 5 (.reg .B) s

/-- `BIT 5,C` (0xCB 0x69, R283). -/
def exec_bit_5_C (s : State) : Result := bitOpnd 5 (.reg .C) s

/-- `BIT 5,D` (0xCB 0x6A, R283). -/
def exec_bit_5_D (s : State) : Result := bitOpnd 5 (.reg .D) s

/-- `BIT 5,E` (0xCB 0x6B, R283). -/
def exec_bit_5_E (s : State) : Result := bitOpnd 5 (.reg .E) s

/-- `BIT 5,H` (0xCB 0x6C, R283). -/
def exec_bit_5_H (s : State) : Result := bitOpnd 5 (.reg .H) s

/-- `BIT 5,L` (0xCB 0x6D, R283). -/
def exec_bit_5_L (s : State) : Result := bitOpnd 5 (.reg .L) s

/-- `BIT 5,(HL)` (0xCB 0x6E, R283). -/
def exec_bit_5_mHL (s : State) : Result := bitOpnd 5 .mHL s

/-- `BIT 5,A` (0xCB 0x6F, R283). -/
def exec_bit_5_A (s : State) : Result := bitOpnd 5 (.reg .A) s

/-- `BIT 6,B` (0xCB 0x70, R283). -/
def exec_bit_6_B (s : State) : Result := bitOpnd 6 (.reg .B) s

/-- `BIT 6,C` (0xCB 0x71, R283). -/
def exec_bit_6_C (s : State) : Result := bitOpnd 6 (.reg .C) s

/-- `BIT 6,D` (0xCB 0x72, R283). -/
def exec_bit_6_D (s : State) : Result := bitOpnd 6 (.reg .D) s

/-- `BIT 6,E` (0xCB 0x73, R283). -/
def exec_bit_6_E (s : State) : Result := bitOpnd 6 (.reg .E) s

/-- `BIT 6,H` (0xCB 0x74, R283). -/
def exec_bit_6_H (s : State) : Result := bitOpnd 6 (.reg .H) s

/-- `BIT 6,L` (0xCB 0x75, R283). -/
def exec_bit_6_L (s : State) : Result := bitOpnd 6 (.reg .L) s

/-- `BIT 6,(HL)` (0xCB 0x76, R283). -/
def exec_bit_6_mHL (s : State) : Result := bitOpnd 6 .mHL s

/-- `BIT 6,A` (0xCB 0x77, R283). -/
def exec_bit_6_A (s : State) : Result := bitOpnd 6 (.reg .A) s

/-- `BIT 7,B` (0xCB 0x78, R283). -/
def exec_bit_7_B (s : State) : Result := bitOpnd 7 (.reg .B) s

/-- `BIT 7,C` (0xCB 0x79, R283). -/
def exec_bit_7_C (s : State) : Result := bitOpnd 7 (.reg .C) s

/-- `BIT 7,D` (0xCB 0x7A, R283). -/
def exec_bit_7_D (s : State) : Result := bitOpnd 7 (.reg .D) s

/-- `BIT 7,E` (0xCB 0x7B, R283). -/
def exec_bit_7_E (s : State) : Result := bitOpnd 7 (.reg .E) s

/-- `BIT 7,H` (0xCB 0x7C, R283). -/
def exec_bit_7_H (s : State) : Result := bitOpnd 7 (.reg .H) s

/-- `BIT 7,L` (0xCB 0x7D, R283). -/
def exec_bit_7_L (s : State) : Result := bitOpnd 7 (.reg .L) s

/-- `BIT 7,(HL)` (0xCB 0x7E, R283). -/
def exec_bit_7_mHL (s : State) : Result := bitOpnd 7 .mHL s

/-- `BIT 7,A` (0xCB 0x7F, R283). -/
def exec_bit_7_A (s : State) : Result := bitOpnd 7 (.reg .A) s

/-- `RES 0,B` (0xCB 0x80, R284). -/
def exec_res_0_B (s : State) : Result := resOpnd 0 (.reg .B) s

/-- `RES 0,C` (0xCB 0x81, R284). -/
def exec_res_0_C (s : State) : Result := resOpnd 0 (.reg .C) s

/-- `RES 0,D` (0xCB 0x82, R284). -/
def exec_res_0_D (s : State) : Result := resOpnd 0 (.reg .D) s

/-- `RES 0,E` (0xCB 0x83, R284). -/
def exec_res_0_E (s : State) : Result := resOpnd 0 (.reg .E) s

/-- `RES 0,H` (0xCB 0x84, R284). -/
def exec_res_0_H (s : State) : Result := resOpnd 0 (.reg .H) s

/-- `RES 0,L` (0xCB 0x85, R284). -/
def exec_res_0_L (s : State) : Result := resOpnd 0 (.reg .L) s

/-- `RES 0,(HL)` (0xCB 0x86, R284). -/
def exec_res_0_mHL (s : State) : Result := resOpnd 0 .mHL s

/-- `RES 0,A` (0xCB 0x87, R284). -/
def exec_res_0_A (s : State) : Result := resOpnd 0 (.reg .A) s

/-- `RES 1,B` (0xCB 0x88, R284). -/
def exec_res_1_B (s : State) : Result := resOpnd 1 (.reg .B) s

/-- `RES 1,C` (0xCB 0x89, R284). -/
def exec_res_1_C (s : State) : Result := resOpnd 1 (.reg .C) s

/-- `RES 1,D` (0xCB 0x8A, R284). -/
def exec_res_1_D (s : State) : Result := resOpnd 1 (.reg .D) s

/-- `RES 1,E` (0xCB 0x8B, R284). -/
def exec_res_1_E (s : State) : Result := resOpnd 1 (.reg .E) s

/-- `RES 1,H` (0xCB 0x8C, R284). -/
def exec_res_1_H (s : State) : Result := resOpnd 1 (.reg .H) s

/-- `RES 1,L` (0xCB 0x8D, R284). -/
def exec_res_1_L (s : State) : Result := resOpnd 1 (.reg .L) s

/-- `RES 1,(HL)` (0xCB 0x8E, R284). -/
def exec_res_1_mHL (s : State) : Result := resOpnd 1 .mHL s

/-- `RES 1,A` (0xCB 0x8F, R284). -/
def exec_res_1_A (s : State) : Result := resOpnd 1 (.reg .A) s

/-- `RES 2,B` (0xCB 0x90, R284). -/
def exec_res_2_B (s : State) : Result := resOpnd 2 (.reg .B) s

/-- `RES 2,C` (0xCB 0x91, R284). -/
def exec_res_2_C (s : State) : Result := resOpnd 2 (.reg .C) s

/-- `RES 2,D` (0xCB 0x92, R284). -/
def exec_res_2_D (s : State) : Result := resOpnd 2 (.reg .D) s

/-- `RES 2,E` (0xCB 0x93, R284). -/
def exec_res_2_E (s : State) : Result := resOpnd 2 (.reg .E) s

/-- `RES 2,H` (0xCB 0x94, R284). -/
def exec_res_2_H (s : State) : Result := resOpnd 2 (.reg .H) s

/-- `RES 2,L` (0xCB 0x95, R284). -/
def exec_res_2_L (s : State) : Result := resOpnd 2 (.reg .L) s

/-- `RES 2,(HL)` (0xCB 0x96, R284). -/
def exec_res_2_mHL (s : State) : Result := resOpnd 2 .mHL s

/-- `RES 2,A` (0xCB 0x97, R284). -/
def exec_res_2_A (s : State) : Result := resOpnd 2 (.reg .A) s

/-- `RES 3,B` (0xCB 0x98, R284). -/
def exec_res_3_B (s : State) : Result := resOpnd 3 (.reg .B) s

/-- `RES 3,C` (0xCB 0x99, R284). -/
def exec_res_3_C (s : State) : Result := resOpnd 3 (.reg .C) s

/-- `RES 3,D` (0xCB 0x9A, R284). -/
def exec_res_3_D (s : State) : Result := resOpnd 3 (.reg .D) s

/-- `RES 3,E` (0xCB 0x9B, R284). -/
def exec_res_3_E (s : State) : Result := resOpnd 3 (.reg .E) s

/-- `RES 3,H` (0xCB 0x9C, R284). -/
def exec_res_3_H (s : State) : Result := resOpnd 3 (.reg .H) s

/-- `RES 3,L` (0xCB 0x9D, R284). -/
def exec_res_3_L (s : State) : Result := resOpnd 3 (.reg .L) s

/-- `RES 3,(HL)` (0xCB 0x9E, R284). -/
def exec_res_3_mHL (s : State) : Result := resOpnd 3 .mHL s

/-- `RES 3,A` (0xCB 0x9F, R284). -/
def exec_res_3_A (s : State) : Result := resOpnd 3 (.reg .A) s

/-- `RES 4,B` (0xCB 0xA0, R284). -/
def exec_res_4_B (s : State) : Result := resOpnd 4 (.reg .B) s

/-- `RES 4,C` (0xCB 0xA1, R284). -/
def exec_res_4_C (s : State) : Result := resOpnd 4 (.reg .C) s

/-- `RES 4,D` (0xCB 0xA2, R284). -/
def exec_res_4_D (s : State) : Result := resOpnd 4 (.reg .D) s

/-- `RES 4,E` (0xCB 0xA3, R284). -/
def exec_res_4_E (s : State) : Result := resOpnd 4 (.reg .E) s

/-- `RES 4,H` (0xCB 0xA4, R284). -/
def exec_res_4_H (s : State) : Result := resOpnd 4 (.reg .H) s

/-- `RES 4,L` (0xCB 0xA5, R284). -/
def exec_res_4_L (s : State) : Result := resOpnd 4 (.reg .L) s

/-- `RES 4,(HL)` (0xCB 0xA6, R284). -/
def exec_res_4_mHL (s : State) : Result := resOpnd 4 .mHL s

/-- `RES 4,A` (0xCB 0xA7, R284). -/
def exec_res_4_A (s : State) : Result := resOpnd 4 (.reg .A) s

/-- `RES 5,B` (0xCB 0xA8, R284). -/
def exec_res_5_B (s : State) : Result := resOpnd 5 (.reg .B) s

/-- `RES 5,C` (0xCB 0xA9, R284). -/
def exec_res_5_C (s : State) : Result := resOpnd 5 (.reg .C) s

/-- `RES 5,D` (0xCB 0xAA, R284). -/
def exec_res_5_D (s : State) : Result := resOpnd 5 (.reg .D) s

/-- `RES 5,E` (0xCB 0xAB, R284). -/
def exec_res_5_E (s : State) : Result := resOpnd 5 (.reg .E) s

/-- `RES 5,H` (0xCB 0xAC, R284). -/
def exec_res_5_H (s : State) : Result := resOpnd 5 (.reg .H) s

/-- `RES 5,L` (0xCB 0xAD, R284). -/
def exec_res_5_L (s : State) : Result := resOpnd 5 (.reg .L) s

/-- `RES 5,(HL)` (0xCB 0xAE, R284). -/
def exec_res_5_mHL (s : State) : Result := resOpnd 5 .mHL s

/-- `RES 5,A` (0xCB 0xAF, R284). -/
def exec_res_5_A (s : State) : Result := resOpnd 5 (.reg .A) s

/-- `RES 6,B` (0xCB 0xB0, R284). -/
def exec_res_6_B (s : State) : Result := resOpnd 6 (.reg .B) s

/-- `RES 6,C` (0xCB 0xB1, R284). -/
def exec_res_6_C (s : State) : Result := resOpnd 6 (.reg .C) s

/-- `RES 6,D` (0xCB 0xB2, R284). -/
def exec_res_6_D (s : State) : Result := resOpnd 6 (.reg .D) s

/-- `RES 6,E` (0xCB 0xB3, R284). -/
def exec_res_6_E (s : State) : Result := resOpnd 6 (.reg .E) s

/-- `RES 6,H` (0xCB 0xB4, R284). -/
def exec_res_6_H (s : State) : Result := resOpnd 6 (.reg .H) s

/-- `RES 6,L` (0xCB 0xB5, R284). -/
def exec_res_6_L (s : State) : Result := resOpnd 6 (.reg .L) s

/-- `RES 6,(HL)` (0xCB 0xB6, R284). -/
def exec_res_6_mHL (s : State) : Result := resOpnd 6 .mHL s

/-- `RES 6,A` (0xCB 0xB7, R284). -/
def exec_res_6_A (s : State) : Result := resOpnd 6 (.reg .A) s

/-- `RES 7,B` (0xCB 0xB8, R284). -/
def exec_res_7_B (s : State) : Result := resOpnd 7 (.reg .B) s

/-- `RES 7,C` (0xCB 0xB9, R284). -/
def exec_res_7_C (s : State) : Result := resOpnd 7 (.reg .C) s

/-- `RES 7,D` (0xCB 0xBA, R284). -/
def exec_res_7_D (s : State) : Result := resOpnd 7 (.reg .D) s

/-- `RES 7,E` (0xCB 0xBB, R284). -/
def exec_res_7_E (s : State) : Result := resOpnd 7 (.reg .E) s

/-- `RES 7,H` (0xCB 0xBC, R284). -/
def exec_res_7_H (s : State) : Result := resOpnd 7 (.reg .H) s

/-- `RES 7,L` (0xCB 0xBD, R284). -/
def exec_res_7_L (s : State) : Result := resOpnd 7 (.reg .L) s

/-- `RES 7,(HL)` (0xCB 0xBE, R284). -/
def exec_res_7_mHL (s : State) : Result := resOpnd 7 .mHL s

/-- `RES 7,A` (0xCB 0xBF, R284). -/
def exec_res_7_A (s : State) : Result := resOpnd 7 (.reg .A) s

/-- `SET 0,B` (0xCB 0xC0, R285). -/
def exec_set_0_B (s : State) : Result := setOpnd 0 (.reg .B) s

/-- `SET 0,C` (0xCB 0xC1, R285). -/
def exec_set_0_C (s : State) : Result := setOpnd 0 (.reg .C) s

/-- `SET 0,D` (0xCB 0xC2, R285). -/
def exec_set_0_D (s : State) : Result := setOpnd 0 (.reg .D) s

/-- `SET 0,E` (0xCB 0xC3, R285). -/
def exec_set_0_E (s : State) : Result := setOpnd 0 (.reg .E) s

/-- `SET 0,H` (0xCB 0xC4, R285). -/
def exec_set_0_H (s : State) : Result := setOpnd 0 (.reg .H) s

/-- `SET 0,L` (0xCB 0xC5, R285). -/
def exec_set_0_L (s : State) : Result := setOpnd 0 (.reg .L) s

/-- `SET 0,(HL)` (0xCB 0xC6, R285). -/
def exec_set_0_mHL (s : State) : Result := setOpnd 0 .mHL s

/-- `SET 0,A` (0xCB 0xC7, R285). -/
def exec_set_0_A (s : State) : Result := setOpnd 0 (.reg .A) s

/-- `SET 1,B` (0xCB 0xC8, R285). -/
def exec_set_1_B (s : State) : Result := setOpnd 1 (.reg .B) s

/-- `SET 1,C` (0xCB 0xC9, R285). -/
def exec_set_1_C (s : State) : Result := setOpnd 1 (.reg .C) s

/-- `SET 1,D` (0xCB 0xCA, R285). -/
def exec_set_1_D (s : State) : Result := setOpnd 1 (.reg .D) s

/-- `SET 1,E` (0xCB 0xCB, R285). -/
def exec_set_1_E (s : State) : Result := setOpnd 1 (.reg .E) s

/-- `SET 1,H` (0xCB 0xCC, R285). -/
def exec_set_1_H (s : State) : Result := setOpnd 1 (.reg .H) s

/-- `SET 1,L` (0xCB 0xCD, R285). -/
def exec_set_1_L (s : State) : Result := setOpnd 1 (.reg .L) s

/-- `SET 1,(HL)` (0xCB 0xCE, R285). -/
def exec_set_1_mHL (s : State) : Result := setOpnd 1 .mHL s

/-- `SET 1,A` (0xCB 0xCF, R285). -/
def exec_set_1_A (s : State) : Result := setOpnd 1 (.reg .A) s

/-- `SET 2,B` (0xCB 0xD0, R285). -/
def exec_set_2_B (s : State) : Result := setOpnd 2 (.reg .B) s

/-- `SET 2,C` (0xCB 0xD1, R285). -/
def exec_set_2_C (s : State) : Result := setOpnd 2 (.reg .C) s

/-- `SET 2,D` (0xCB 0xD2, R285). -/
def exec_set_2_D (s : State) : Result := setOpnd 2 (.reg .D) s

/-- `SET 2,E` (0xCB 0xD3, R285). -/
def exec_set_2_E (s : State) : Result := setOpnd 2 (.reg .E) s

/-- `SET 2,H` (0xCB 0xD4, R285). -/
def exec_set_2_H (s : State) : Result := setOpnd 2 (.reg .H) s

/-- `SET 2,L` (0xCB 0xD5, R285). -/
def exec_set_2_L (s : State) : Result := setOpnd 2 (.reg .L) s

/-- `SET 2,(HL)` (0xCB 0xD6, R285). -/
def exec_set_2_mHL (s : State) : Result := setOpnd 2 .mHL s

/-- `SET 2,A` (0xCB 0xD7, R285). -/
def exec_set_2_A (s : State) : Result := setOpnd 2 (.reg .A) s

/-- `SET 3,B` (0xCB 0xD8, R285). -/
def exec_set_3_B (s : State) : Result := setOpnd 3 (.reg .B) s

/-- `SET 3,C` (0xCB 0xD9, R285). -/
def exec_set_3_C (s : State) : Result := setOpnd 3 (.reg .C) s

/-- `SET 3,D` (0xCB 0xDA, R285). -/
def exec_set_3_D (s : State) : Result := setOpnd 3 (.reg .D) s

/-- `SET 3,E` (0xCB 0xDB, R285). -/
def exec_set_3_E (s : State) : Result := setOpnd 3 (.reg .E) s

/-- `SET 3,H` (0xCB 0xDC, R285). -/
def exec_set_3_H (s : State) : Result := setOpnd 3 (.reg .H) s

/-- `SET 3,L` (0xCB 0xDD, R285). -/
def exec_set_3_L (s : State) : Result := setOpnd 3 (.reg .L) s

/-- `SET 3,(HL)` (0xCB 0xDE, R285). -/
def exec_set_3_mHL (s : State) : Result := setOpnd 3 .mHL s

/-- `SET 3,A` (0xCB 0xDF, R285). -/
def exec_set_3_A (s : State) : Result := setOpnd 3 (.reg .A) s

/-- `SET 4,B` (0xCB 0xE0, R285). -/
def exec_set_4_B (s : State) : Result := setOpnd 4 (.reg .B) s

/-- `SET 4,C` (0xCB 0xE1, R285). -/
def exec_set_4_C (s : State) : Result := setOpnd 4 (.reg .C) s

/-- `SET 4,D` (0xCB 0xE2, R285). -/
def exec_set_4_D (s : State) : Result := setOpnd 4 (.reg .D) s

/-- `SET 4,E` (0xCB 0xE3, R285). -/
def exec_set_4_E (s : State) : Result := setOpnd 4 (.reg .E) s

/-- `SET 4,H` (0xCB 0xE4, R285). -/
def exec_set_4_H (s : State) : Result := setOpnd 4 (.reg .H) s

/-- `SET 4,L` (0xCB 0xE5, R285). -/
def exec_set_4_L (s : State) : Result := setOpnd 4 (.reg .L) s

/-- `SET 4,(HL)` (0xCB 0xE6, R285). -/
def exec_set_4_mHL (s : State) : Result := setOpnd 4 .mHL s

/-- `SET 4,A` (0xCB 0xE7, R285). -/
def exec_set_4_A (s : State) : Result := setOpnd 4 (.reg .A) s

/-- `SET 5,B` (0xCB 0xE8, R285). -/
def exec_set_5_B (s : State) : Result := setOpnd 5 (.reg .B) s

/-- `SET 5,C` (0xCB 0xE9, R285). -/
def exec_set_5_C (s : State) : Result := setOpnd 5 (.reg .C) s

/-- `SET 5,D` (0xCB 0xEA, R285). -/
def exec_set_5_D (s : State) : Result := setOpnd 5 (.reg .D) s

/-- `SET 5,E` (0xCB 0xEB, R285). -/
def exec_set_5_E (s : State) : Result := setOpnd 5 (.reg .E) s

/-- `SET 5,H` (0xCB 0xEC, R285). -/
def exec_set_5_H (s : State) : Result := setOpnd 5 (.reg .H) s

/-- `SET 5,L` (0xCB 0xED, R285). -/
def exec_set_5_L (s : State) : Result := setOpnd 5 (.reg .L) s

/-- `SET 5,(HL)` (0xCB 0xEE, R285). -/
def exec_set_5_mHL (s : State) : Result := setOpnd 5 .mHL s

/-- `SET 5,A` (0xCB 0xEF, R285). -/
def exec_set_5_A (s : State) : Result := setOpnd 5 (.reg .A) s

/-- `SET 6,B` (0xCB 0xF0, R285). -/
def exec_set_6_B (s : State) : Result := setOpnd 6 (.reg .B) s

/-- `SET 6,C` (0xCB 0xF1, R285). -/
def exec_set_6_C (s : State) : Result := setOpnd 6 (.reg .C) s

/-- `SET 6,D` (0xCB 0xF2, R285). -/
def exec_set_6_D (s : State) : Result := setOpnd 6 (.reg .D) s

/-- `SET 6,E` (0xCB 0xF3, R285). -/
def exec_set_6_E (s : State) : Result := setOpnd 6 (.reg .E) s

/-- `SET 6,H` (0xCB 0xF4, R285). -/
def exec_set_6_H (s : State) : Result := setOpnd 6 (.reg .H) s

/-- `SET 6,L` (0xCB 0xF5, R285). -/
def exec_set_6_L (s : State) : Result := setOpnd 6 (.reg .L) s

/-- `SET 6,(HL)` (0xCB 0xF6, R285). -/
def exec_set_6_mHL (s : State) : Result := setOpnd 6 .mHL s

/-- `SET 6,A` (0xCB 0xF7, R285). -/
def exec_set_6_A (s : State) : Result := setOpnd 6 (.reg .A) s

/-- `SET 7,B` (0xCB 0xF8, R285). -/
def exec_set_7_B (s : State) : Result := setOpnd 7 (.reg .B) s

/-- `SET 7,C` (0xCB 0xF9, R285). -/
def exec_set_7_C (s : State) : Result := setOpnd 7 (.reg .C) s

/-- `SET 7,D` (0xCB 0xFA, R285). -/
def exec_set_7_D (s : State) : Result := setOpnd 7 (.reg .D) s

/-- `SET 7,E` (0xCB 0xFB, R285). -/
def exec_set_7_E (s : State) : Result := setOpnd 7 (.reg .E) s

/-- `SET 7,H` (0xCB 0xFC, R285). -/
def exec_set_7_H (s : State) : Result := setOpnd 7 (.reg .H) s

/-- `SET 7,L` (0xCB 0xFD, R285). -/
def exec_set_7_L (s : State) : Result := setOpnd 7 (.reg .L) s

/-- `SET 7,(HL)` (0xCB 0xFE, R285). -/
def exec_set_7_mHL (s : State) : Result := setOpnd 7 .mHL s

/-- `SET 7,A` (0xCB 0xFF, R285). -/
def exec_set_7_A (s : State) : Result := setOpnd 7 (.reg .A) s

end Sys2Proof.Machine
end

