-- ==== Sys2Proof/Machine/System.lean ====
section
/-! DEFINITION. System and control-state instructions (45_system.md). -/

namespace Sys2Proof.Machine

/-- `HALT` (R321): with IME off and a line pending it does not halt, and shows the HALT bug of R322
when HALT_BUG is true. -/
def halt (s : State) : State :=
  if s.ime = true ∨ pendingLines s = 0#5 then { s with runState := .halted }
  else if s.haltBug = true then { s with haltBugPending := true }
  else s

/-- `STOP` (R323). -/
def stop (s : State) : State :=
  { s with timer := { s.timer with div := 0#8, divAcc := 0 }, runState := .stopped }

/-- `DI` (R324). -/
def disableInterrupts (s : State) : State := { s with ime := false, eiDelay := 0 }

/-- `EI` (R325). -/
def enableInterrupts (s : State) : State :=
  if s.ime = false ∧ s.eiDelay = 0 then { s with eiDelay := 2 } else s

/-! ## The instructions -/

/-- `NOP` (0x00, R320). -/
def exec_nop (s : State) : Result := done 4 s

/-- `STOP` (0x10, R323). -/
def exec_stop (_ignored : Byte) (s : State) : Result := done 4 (stop s)

/-- `HALT` (0x76, R321). -/
def exec_halt (s : State) : Result := done 4 (halt s)

/-- The illegal opcode 0xD3 (R327). -/
def exec_illegal_D3 (s : State) : Result := .next (raiseIllegal 0xD3#8 s)

/-- The illegal opcode 0xDB (R327). -/
def exec_illegal_DB (s : State) : Result := .next (raiseIllegal 0xDB#8 s)

/-- The illegal opcode 0xDD (R327). -/
def exec_illegal_DD (s : State) : Result := .next (raiseIllegal 0xDD#8 s)

/-- The illegal opcode 0xE3 (R327). -/
def exec_illegal_E3 (s : State) : Result := .next (raiseIllegal 0xE3#8 s)

/-- The illegal opcode 0xE4 (R327). -/
def exec_illegal_E4 (s : State) : Result := .next (raiseIllegal 0xE4#8 s)

/-- The illegal opcode 0xEB (R327). -/
def exec_illegal_EB (s : State) : Result := .next (raiseIllegal 0xEB#8 s)

/-- The illegal opcode 0xEC (R327). -/
def exec_illegal_EC (s : State) : Result := .next (raiseIllegal 0xEC#8 s)

/-- The illegal opcode 0xED (R327). -/
def exec_illegal_ED (s : State) : Result := .next (raiseIllegal 0xED#8 s)

/-- `DI` (0xF3, R324). -/
def exec_di (s : State) : Result := done 4 (disableInterrupts s)

/-- The illegal opcode 0xF4 (R327). -/
def exec_illegal_F4 (s : State) : Result := .next (raiseIllegal 0xF4#8 s)

/-- `EI` (0xFB, R325). -/
def exec_ei (s : State) : Result := done 4 (enableInterrupts s)

/-- The illegal opcode 0xFC (R327). -/
def exec_illegal_FC (s : State) : Result := .next (raiseIllegal 0xFC#8 s)

/-- The illegal opcode 0xFD (R327). -/
def exec_illegal_FD (s : State) : Result := .next (raiseIllegal 0xFD#8 s)

end Sys2Proof.Machine
end

