-- ==== Sys2Proof/Machine/StepLoop.lean ====
section
/-! DEFINITION. The CPU part of a step (R400), around `exec`. -/

namespace Sys2Proof.Machine

/-- A host palette request stored (R545). -/
def acceptPalette (s : State) : State :=
  match s.host.paletteSwap.now with
  | some p => drawPaletteSwap (withLcd s { s.lcd with swapPending := some p })
  | none => drawPaletteSwap s

/-- The host's part between two steps (log 7): it has taken the last step's outputs (R546, R577), and
may request a palette. -/
def beginStep (s : State) : State :=
  acceptPalette { withLcd s { s.lcd with frameReady := false } with
    out := { samples := [], serialSent := [] }, cycles := 0 }

/-- A step spent halted or stopped: 4 cycles, nothing fetched (R321, R323, R401). -/
def idleStep (s : State) : Result := done 4 s

/-- One instruction fetched and executed (R400). -/
def runInstruction (s : State) : Result :=
  let (i, s1) := fetchInstr { s with instrAddr := s.regs.pc }
  exec i s1

/-- The dispatch test, made once at the start of a step (R400, R403, R413). -/
def runOrDispatch (s : State) : Result :=
  if s.ime = true ∧ pendingLines s ≠ 0#5 then .next (dispatch s) else runInstruction s

/-- Whether any of the 8 buttons is pressed, whatever P1 selects (R323). -/
def anyPressed (b : Buttons) : Bool := !(b.dirs == 0xF#4 && b.acts == 0xF#4)

/-- The CPU part of `Step()` (R400). -/
def cpuStep (s : State) : Result :=
  match s.runState with
  | .running => runOrDispatch s
  | .halted =>
    if pendingLines s = 0#5 then idleStep s else runOrDispatch { s with runState := .running }
  | .stopped =>
    if anyPressed s.host.buttons.now = true then runOrDispatch { drawButtons s with runState := .running }
    else idleStep (drawButtons s)
  | .faulted r => .fault (.faulted r)

/-- The end of a step: a step that raised the fatal state ends at once, without `EndOfStep` and
without a device advance (R430, R433). -/
def afterCpu : Result → Result
  | .next s => if isFaulted s = true then .next s else .next (finishStep s)
  | .fault r => .fault r
  | .refused r => .refused r

end Sys2Proof.Machine
end

