-- ==== Sys2Proof/Machine/Step.lean ====
section
/-! DEFINITION. One step of the machine (R400), and the placing of one instruction for it. -/

namespace Sys2Proof.Machine

/-- `Step()` (R400): in the terminal state nothing changes (R430); otherwise the CPU part, then the
end of the step. -/
def step (s : State) : Host.Outcome State Fault Refusal :=
  match s.runState with
  | .faulted r => .fault (.faulted r)
  | .running => afterCpu (cpuStep (beginStep s))
  | .halted => afterCpu (cpuStep (beginStep s))
  | .stopped => afterCpu (cpuStep (beginStep s))

/-- `s` with the instruction whose table bits are `w` stored where `step` fetches next (log 8). -/
def State.withFetchWord (s : State) (nbits w : Nat) : State := placeCode (tableBytes nbits w) s

end Sys2Proof.Machine
end

