-- ==== Sys2Proof/Machine/Load.lean ====
section
/-! DEFINITION. Loading a cartridge (R604 to R606), power-on in both boot modes (R80, R81, R600 to R602)
and the save data (R592). -/

namespace Sys2Proof.Machine

/-! ## Cartridge checks -/

/-- Why a cartridge is rejected (R431, R604). -/
inductive LoadReject where
  | imageUnreadable
  | badChecksum (stored computed : Byte)
  | unsupportedController (b : Byte)
  | colorOnly
  | unsupportedRamSize (b : Byte)
  | unsupportedRomSize (b : Byte)
deriving DecidableEq, Repr

/-- The code of a rejection (R431). -/
def LoadReject.code : LoadReject → Byte
  | .imageUnreadable => 0x81#8
  | .badChecksum _ _ => 0x82#8
  | .unsupportedController _ => 0x83#8
  | .colorOnly => 0x84#8
  | .unsupportedRamSize _ => 0x85#8
  | .unsupportedRomSize _ => 0x86#8

/-- A header byte of an image (R604). -/
def headerByte (rom : Image) (a : Nat) : Byte := Memory.read rom.cells a

/-- The checksum of the header bytes 0x0134 to 0x014C (R604). -/
def headerChecksum (rom : Image) : Byte :=
  (List.range 25).foldl (fun x i => x - headerByte rom (0x134 + i) - 1#8) 0#8

/-- `ControllerOf(b)` (R605). -/
def controllerOf (b : Byte) : Option MbcType :=
  if b = 0x00#8 then some .none
  else if [0x01#8, 0x02#8, 0x03#8].contains b = true then some .mbc1
  else if [0x05#8, 0x06#8].contains b = true then some .mbc2
  else if [0x0F#8, 0x10#8, 0x11#8, 0x12#8, 0x13#8].contains b = true then some .mbc3
  else none

/-- `RamBanksOf(b)` (R606). -/
def ramBanksOf (b : Byte) : Option Nat :=
  match b.toNat with
  | 0 => some 0
  | 1 => some 1
  | 2 => some 1
  | 3 => some 4
  | _ => none

/-- The checks of R604 from the controller byte on, in their order. -/
def checkHeader (rom : Image) (boot : Memory) : Except LoadReject Cart :=
  match controllerOf (headerByte rom 0x147) with
  | none => .error (.unsupportedController (headerByte rom 0x147))
  | some t =>
    if headerByte rom 0x143 = 0xC0#8 then .error .colorOnly
    else
      match ramBanksOf (headerByte rom 0x149) with
      | none => .error (.unsupportedRamSize (headerByte rom 0x149))
      | some n =>
        if (headerByte rom 0x148).toNat > 8 then .error (.unsupportedRomSize (headerByte rom 0x148))
        else
          .ok { rom := rom, bootImage := boot, mbcType := t
                romBanks := 2 * 2 ^ (headerByte rom 0x148).toNat, ramBanks := n }

/-- `LoadCartridge(CART_ROM)` (R604): the first failing check rejects the image. -/
def loadCartridge (rom : Option Image) (boot : Memory) : Except LoadReject Cart :=
  match rom with
  | none => .error .imageUnreadable
  | some r =>
    if r.len < 0x150 then .error .imageUnreadable
    else if headerChecksum r ≠ headerByte r 0x14D then
      .error (.badChecksum (headerByte r 0x14D) (headerChecksum r))
    else checkHeader r boot

/-! ## Save data -/

/-- The number of external RAM cells: `ram_banks × 8192`, or MBC2's 512 (R67, R592). -/
def eramSize (c : Cart) : Nat := if c.mbcType = .mbc2 then 512 else c.ramBanks * 8192

/-- A byte as external RAM holds it: MBC2's cells have four bits (R140). -/
def eramCell (c : Cart) (v : Byte) : Byte := if c.mbcType = .mbc2 then v &&& 0x0F#8 else v

/-- The bytes of external RAM by offset (R592). -/
def eramDump (c : Cart) (eram : Memory) : List Byte :=
  (List.range (eramSize c)).map (fun i => eramCell c (Memory.read eram i))

/-- The initial external RAM: SAVE_RAM if it has the right size, else POWER_ON_FILL (R80, R592). -/
def initialEram (c : Cart) (save : Option (List Byte)) (fill : Memory) : Memory :=
  match save with
  | some bytes =>
    if bytes.length = eramSize c then Memory.ofBytes 0 (bytes.map (eramCell c))
    else Memory.ofBytes 0 (eramDump c fill)
  | none => Memory.ofBytes 0 (eramDump c fill)

/-- The save data written at shutdown, if the cartridge has RAM (R592), with the clock of an MBC3. -/
def saveData (s : State) : Option (List Byte) :=
  if eramSize s.cart = 0 then none else some (eramDump s.cart s.eram)

/-- The MBC3 clock of the save data: the live registers and the anchor, written where the save data is (R592). DESIGN
CHOICE (log 19): R592 asks for no `RtcUpdate()` at shutdown, so the registers are those of the last update, and the anchor
beside them says when that was. -/
def saveClockValue (s : State) : Option SavedClock :=
  if s.cart.mbcType = .mbc3 ∧ (saveData s).isSome = true then some ⟨s.mbc.rtcLive, s.mbc.rtcAnchor⟩ else none

/-- The clock that power-on takes: the save data's if the host supplies one, else zero (R602). The saved anchor is not
used, since R602 sets `rtc_anchor` from RTC_NOW. DEDUCED (log 22): bits outside the register fields of R147 are dropped. -/
def initialClock (save : Option SavedClock) : Rtc :=
  match save with
  | some c => rtcMasked c.regs
  | none => Rtc.zero

/-! ## Power-on -/

/-- Whether POWER_ON_FILL gives the byte at a bus address: VRAM, WRAM, OAM, HRAM (R80). -/
def filledAt (a : Nat) : Bool :=
  (0x8000 ≤ a && a ≤ 0x9FFF) || (0xC000 ≤ a && a ≤ 0xDFFF) || (0xFE00 ≤ a && a ≤ 0xFE9F)
    || (0xFF80 ≤ a && a ≤ 0xFFFE)

/-- POWER_ON_FILL's bytes of VRAM, WRAM, OAM and HRAM, in canonical form; wave RAM starts at 0. -/
def filledMem (fill : Memory) : Memory :=
  (fill.filter (fun c => filledAt c.1)).foldl (fun m c => Memory.write m c.1 c.2) []

/-- The power-on state that both boot modes share (R80, R601): everything 0 or fill. How the fill and the saved clock meet
bits that a register does not have is the model's choice (logs 10, 22). -/
def powerOnBase (p : Params) (h : HostIn) (c : Cart) : State :=
  { regs := { a := p.fill.a, f := p.fill.f &&& 0xF0#8, b := p.fill.b, c := p.fill.c, d := p.fill.d
              e := p.fill.e, h := p.fill.h, l := p.fill.l, sp := p.fill.sp, pc := 0x0000#16 }
    ime := false, eiDelay := 0, runState := .running, haltBugPending := false
    ie := 0#8, iflag := 0#5, p1Sel := 0#2, joyPrev := 0xF#4
    timer := { div := 0#8, tima := 0#8, tma := 0#8, tac := 0#3, divAcc := 0, timaAcc := 0 }
    serial := { sb := 0#8, sc := 0#8, acc := 0, bitCount := 0 }
    lcd := Lcd.zero p.palette
    sound := Sound.zero
    mem := filledMem p.fill.mem
    eram := initialEram c p.saveRam p.fill.eram
    cart := c
    mbc := Mbc.initial (initialClock p.saveClock) h.rtcNow.now
    bootOverlay := true
    haltBug := p.haltBug
    host := { h with rtcNow := Oracle.draw h.rtcNow }
    out := { samples := [], serialSent := [] }
    cycles := 0, instrAddr := 0#16 }

/-- The sound controller at hand-over (R81, R601): master on, channel 1 enabled. -/
def handoverSound : Sound :=
  { Sound.zero with
    master := true, nr50 := 0x77#8, nr51 := 0xF3#8
    ch1 := { Square.zero with
      core := ⟨true, 0, 0⟩, nrx1 := 0x80#8, nrx2 := 0xF3#8, nrx3 := 0xC1#8, nrx4 := 0x07#8 } }

/-- The state of `SkipBoot` (R81, R601). -/
def skipBoot (s : State) : State :=
  { s with
    regs := { a := 0x01#8, f := 0xB0#8, b := 0x00#8, c := 0x13#8, d := 0x00#8, e := 0xD8#8, h := 0x01#8
              l := 0x4D#8, sp := 0xFFFE#16, pc := 0x0100#16 }
    iflag := 0x01#5
    timer := { s.timer with div := 0xAB#8 }
    lcd := { s.lcd with
      lcdc := 0x91#8, stat := 0x85#8, dma := 0xFF#8, bgp := 0xFC#8, obp0 := 0xFF#8, obp1 := 0xFF#8
      prevCoinc := true }
    sound := handoverSound
    bootOverlay := false }

/-- The boot image of BOOT_MODE; `SkipBoot` has none (R10). -/
def bootImageOf : BootMode → Memory
  | .bootRom image => image
  | .skipBoot => []

/-- The reset sequence of R600: the cartridge checks, the load-time state, the reset state of the boot
mode. -/
def powerOn (p : Params) (h : HostIn) : Except LoadReject State :=
  match loadCartridge p.cartRom (bootImageOf p.bootMode) with
  | .error e => .error e
  | .ok c =>
    match p.bootMode with
    | .bootRom _ => .ok (powerOnBase p h c)
    | .skipBoot => .ok (skipBoot (powerOnBase p h c))

end Sys2Proof.Machine
end

