-- ==== Sys2Proof/WellFormed.lean ====
section
/-! DEFINITION. Well-formedness: an instruction the spec defines (R181, R182), and a byte list that is
exactly the bytes of one such instruction (R170, R183). -/

namespace Sys2Proof

/-- The eleven illegal opcodes (R181). -/
def illegalOpcodes : List Byte :=
  [0xD3#8, 0xDB#8, 0xDD#8, 0xE3#8, 0xE4#8, 0xEB#8] ++ [0xEC#8, 0xED#8, 0xF4#8, 0xFC#8, 0xFD#8]

/-- The opcode byte of an instruction: the first byte of its encoding. -/
def Instr.opcode (i : Instr) : Byte := (encode i).getD 0 0#8

/-- Whether the spec defines the instruction: every form but the eleven illegal opcodes, each of
which is one byte (R181, R182). -/
def Instr.wellFormed (i : Instr) : Bool := !illegalOpcodes.contains i.opcode

/-- A byte list is the code of one well-formed instruction: it has as many bytes as its first byte
asks for (R183), and that byte is not illegal (R181). -/
def wellFormedCode (bytes : List Byte) : Bool :=
  match bytes with
  | [] => false
  | op :: rest => rest.length + 1 == instrLength op && !illegalOpcodes.contains op

end Sys2Proof
end

