-- ==== Sys2Proof/Safety.lean ====
section
/-! DEFINITION. The terms that claims use: runs, the invariants of the state, the RAM behind a bus
address, and the addresses an instruction stores to. -/

namespace Sys2Proof.Machine

/-! ## Runs -/

/-- The states a run from power-on passes through (R600). -/
inductive Reachable (p : Params) (h : HostIn) : State → Prop where
  | start {s : State} : powerOn p h = .ok s → Reachable p h s
  | next {s t : State} : Reachable p h s → step s = .next t → Reachable p h t

/-- A run is safe while it has not met the fatal state (R430). -/
def Safe (s : State) : Prop := isFaulted s = false

/-! ## Invariants -/

/-- Bits 3 to 0 of F are 0 (R22). -/
def FlagsWf (s : State) : Prop := s.regs.f &&& 0x0F#8 = 0#8

/-- The addresses that `mem` holds: VRAM, WRAM, OAM, wave RAM, HRAM (R67). -/
def isMemAddr (n : Nat) : Bool :=
  (0x8000 ≤ n && n ≤ 0x9FFF) || (0xC000 ≤ n && n ≤ 0xDFFF) || (0xFE00 ≤ n && n ≤ 0xFE9F)
    || (0xFF30 ≤ n && n ≤ 0xFF3F) || (0xFF80 ≤ n && n ≤ 0xFFFE)

/-- Both memories are in canonical form and hold nothing outside the storage of R67. -/
structure StorageWf (s : State) : Prop where
  memWf : Memory.wf s.mem
  memAddr : ∀ c ∈ s.mem, isMemAddr c.1 = true
  eramWf : Memory.wf s.eram
  eramAddr : ∀ c ∈ s.eram, c.1 < eramSize s.cart

/-- `ei_delay` is at most 2, and a scheduled enable means IME is off (R27, R325). -/
structure EnableWf (s : State) : Prop where
  bound : s.eiDelay ≤ 2
  exclusive : s.eiDelay > 0 → s.ime = false

/-- The switchable ROM bank registers are never 0 (R132, R140, R145). -/
structure BanksWf (s : State) : Prop where
  bank1 : s.mbc.bank1 ≠ 0#5
  romBank : s.mbc.romBank ≠ 0#7
  mbc2 : s.cart.mbcType = .mbc2 → s.mbc.romBank.toNat < 16

/-- A clock value within the register fields of R147: DH bits 5 to 1 and the other absent bits are 0. -/
structure ClockFieldsWf (t : Rtc) : Prop where
  s : t.s.toNat < 64
  m : t.m.toNat < 64
  h : t.h.toNat < 32
  dh : t.dh &&& 0x3E#8 = 0#8

/-- The live and the latched clock of an MBC3 stay within their fields (R146, R147, R148). -/
structure ClockWf (s : State) : Prop where
  live : ClockFieldsWf s.mbc.rtcLive
  latched : ClockFieldsWf s.mbc.rtcLatched

/-- The timer and serial accumulators (R70, R71) between steps. -/
structure CountersWf (s : State) : Prop where
  divAcc : s.timer.divAcc < 256
  timaAcc : s.timer.timaAcc < 1024
  threshold : s.timer.tac.getLsbD 2 = true → s.timer.timaAcc < timerThreshold s.timer.tac
  serialAcc : s.serial.acc < 512
  bitCount : s.serial.bitCount < 8

/-- The display counters and buffers (R61, R72). -/
structure DisplayWf (s : State) : Prop where
  ly : s.lcd.ly.toNat ≤ 153
  lineCycles : s.lcd.lineCycles < 456
  bgCode : s.lcd.bgCode.length = 160
  rows : s.lcd.frameBuffer.length = 144
  columns : ∀ row ∈ s.lcd.frameBuffer, row.length = 160

/-- The sound counters (R73). -/
structure SoundWf (d : Sound) : Prop where
  fsAcc : d.fsAcc < 8192
  fsPhase : d.fsPhase < 8
  sampleAcc : d.sampleAcc < 4194304
  lengths : d.ch1.core.length ≤ 64 ∧ d.ch2.core.length ≤ 64 ∧ d.ch3.core.length ≤ 256 ∧ d.ch4.core.length ≤ 64
  volumes : d.ch1.env.volume ≤ 15 ∧ d.ch2.env.volume ≤ 15 ∧ d.ch4.env.volume ≤ 15
  envTimers : d.ch1.env.timer ≤ 7 ∧ d.ch2.env.timer ≤ 7 ∧ d.ch4.env.timer ≤ 7
  positions : d.ch1.dutyPos < 8 ∧ d.ch2.dutyPos < 8 ∧ d.ch3.wavePos < 32
  sweepTimer : d.sweep.timer ≤ 8
  sweepShadow : d.sweep.shadow ≤ 2047

/-- Every invariant of the state between steps. -/
structure Inv (s : State) : Prop where
  flags : FlagsWf s
  storage : StorageWf s
  enable : EnableWf s
  banks : BanksWf s
  clock : ClockWf s
  counters : CountersWf s
  display : DisplayWf s
  sound : SoundWf s.sound

/-! ## The RAM behind a bus address -/

/-- The cell of `mem` behind a RAM address: VRAM, WRAM, its echo (R113), OAM, HRAM; `none` elsewhere. -/
def ramCell (a : Word) : Option Nat :=
  let n := a.toNat
  if 0x8000 ≤ n ∧ n ≤ 0x9FFF then some n
  else if 0xC000 ≤ n ∧ n ≤ 0xDFFF then some n
  else if 0xE000 ≤ n ∧ n ≤ 0xFDFF then some (n - 0x2000)
  else if 0xFE00 ≤ n ∧ n ≤ 0xFE9F then some n
  else if 0xFF80 ≤ n ∧ n ≤ 0xFFFE then some n
  else none

/-- Whether the display owns the address (R112). -/
def blockedAt (s : State) (a : Word) : Bool :=
  (decide (0x8000 ≤ a.toNat ∧ a.toNat ≤ 0x9FFF) && vramBlocked s)
    || (decide (0xFE00 ≤ a.toNat ∧ a.toNat ≤ 0xFE9F) && oamBlocked s)

/-- Whether a CPU write to `a` stores into RAM now. -/
def storable (s : State) (a : Word) : Bool := (ramCell a).isSome && !blockedAt s a

/-! ## Where an instruction stores -/

/-- The two stack bytes a push stores to (R220). -/
def pushAddrs (s : State) : List Word := [s.regs.sp - 1#16, s.regs.sp - 2#16]

/-- The bus addresses that an instruction writes in state `s`, in order (files 40 to 44); `[]` for a
form that stores nothing. -/
def storeAddrs (s : State) : Instr → List Word
  | .ld_mBC_A => [getReg16 s .BC]
  | .ld_mDE_A => [getReg16 s .DE]
  | .ld_mHLI_A | .ld_mHLD_A => [getHL s]
  | .ld_mHL_B | .ld_mHL_C | .ld_mHL_D | .ld_mHL_E | .ld_mHL_H | .ld_mHL_L | .ld_mHL_A => [getHL s]
  | .ld_mHL_d8 _ | .inc_mHL | .dec_mHL => [getHL s]
  | .ld_mA16_SP a => [a, a + 1#16]
  | .ld_mA16_A a => [a]
  | .ldh_mA8_A a => [highPage a]
  | .ld_mC_A => [highPage s.regs.c]
  | .push_BC | .push_DE | .push_HL | .push_AF => pushAddrs s
  | .call_a16 _ => pushAddrs s
  | .call_NZ_a16 _ => if condHolds s .NZ = true then pushAddrs s else []
  | .call_Z_a16 _ => if condHolds s .Z = true then pushAddrs s else []
  | .call_NC_a16 _ => if condHolds s .NC = true then pushAddrs s else []
  | .call_C_a16 _ => if condHolds s .C = true then pushAddrs s else []
  | .rst_0x00 | .rst_0x08 | .rst_0x10 | .rst_0x18 | .rst_0x20 | .rst_0x28 | .rst_0x30 | .rst_0x38 =>
    pushAddrs s
  | .rlc_mHL | .rrc_mHL | .rl_mHL | .rr_mHL | .sla_mHL | .sra_mHL | .swap_mHL | .srl_mHL => [getHL s]
  | .res_0_mHL | .res_1_mHL | .res_2_mHL | .res_3_mHL => [getHL s]
  | .res_4_mHL | .res_5_mHL | .res_6_mHL | .res_7_mHL => [getHL s]
  | .set_0_mHL | .set_1_mHL | .set_2_mHL | .set_3_mHL => [getHL s]
  | .set_4_mHL | .set_5_mHL | .set_6_mHL | .set_7_mHL => [getHL s]
  | _ => []

/-! ## Control instructions -/

/-- The instructions that may change IME, `ei_delay`, `run_state` or `halt_bug_pending`: HALT, STOP, DI,
EI, RETI and the illegal opcodes (R26 to R28, R310, R321 to R327). -/
def controlInstr : Instr → Bool
  | .halt | .stop _ | .di | .ei | .reti => true
  | .illegal_D3 | .illegal_DB | .illegal_DD | .illegal_E3 | .illegal_E4 | .illegal_EB => true
  | .illegal_EC | .illegal_ED | .illegal_F4 | .illegal_FC | .illegal_FD => true
  | _ => false

/-! ## Costs (R184)

The listing of R184 as a table: the cost of each primary opcode, the taken figure of a conditional
transfer; 0 at the prefix and at the illegal opcodes. -/

/-- Costs of the opcodes 0x (R184). -/
def costRow0 : List Nat := [4, 12, 8, 8, 4, 4, 8, 4, 20, 8, 8, 8, 4, 4, 8, 4]
/-- Costs of the opcodes 1x (R184). -/
def costRow1 : List Nat := [4, 12, 8, 8, 4, 4, 8, 4, 12, 8, 8, 8, 4, 4, 8, 4]
/-- Costs of the opcodes 2x (R184). -/
def costRow2 : List Nat := [12, 12, 8, 8, 4, 4, 8, 4, 12, 8, 8, 8, 4, 4, 8, 4]
/-- Costs of the opcodes 3x (R184). -/
def costRow3 : List Nat := [12, 12, 8, 8, 12, 12, 12, 4, 12, 8, 8, 8, 4, 4, 8, 4]
/-- Costs of the opcodes 4x (R184). -/
def costRow4 : List Nat := [4, 4, 4, 4, 4, 4, 8, 4, 4, 4, 4, 4, 4, 4, 8, 4]
/-- Costs of the opcodes 5x (R184). -/
def costRow5 : List Nat := [4, 4, 4, 4, 4, 4, 8, 4, 4, 4, 4, 4, 4, 4, 8, 4]
/-- Costs of the opcodes 6x (R184). -/
def costRow6 : List Nat := [4, 4, 4, 4, 4, 4, 8, 4, 4, 4, 4, 4, 4, 4, 8, 4]
/-- Costs of the opcodes 7x (R184). -/
def costRow7 : List Nat := [8, 8, 8, 8, 8, 8, 4, 8, 4, 4, 4, 4, 4, 4, 8, 4]
/-- Costs of the opcodes 8x (R184). -/
def costRow8 : List Nat := [4, 4, 4, 4, 4, 4, 8, 4, 4, 4, 4, 4, 4, 4, 8, 4]
/-- Costs of the opcodes 9x (R184). -/
def costRow9 : List Nat := [4, 4, 4, 4, 4, 4, 8, 4, 4, 4, 4, 4, 4, 4, 8, 4]
/-- Costs of the opcodes Ax (R184). -/
def costRowA : List Nat := [4, 4, 4, 4, 4, 4, 8, 4, 4, 4, 4, 4, 4, 4, 8, 4]
/-- Costs of the opcodes Bx (R184). -/
def costRowB : List Nat := [4, 4, 4, 4, 4, 4, 8, 4, 4, 4, 4, 4, 4, 4, 8, 4]
/-- Costs of the opcodes Cx (R184). -/
def costRowC : List Nat := [20, 12, 16, 16, 24, 16, 8, 16, 20, 16, 16, 0, 24, 24, 8, 16]
/-- Costs of the opcodes Dx (R184). -/
def costRowD : List Nat := [20, 12, 16, 0, 24, 16, 8, 16, 20, 16, 16, 0, 24, 0, 8, 16]
/-- Costs of the opcodes Ex (R184). -/
def costRowE : List Nat := [12, 12, 8, 0, 0, 16, 8, 16, 16, 4, 16, 0, 0, 0, 8, 16]
/-- Costs of the opcodes Fx (R184). -/
def costRowF : List Nat := [12, 12, 8, 4, 0, 16, 8, 16, 12, 8, 16, 4, 0, 0, 8, 16]

/-- The taken cost of a primary opcode (R184). -/
def takenCost (op : Byte) : Nat :=
  tableEntry
    ([costRow0, costRow1, costRow2, costRow3, costRow4, costRow5, costRow6, costRow7]
      ++ [costRow8, costRow9, costRowA, costRowB, costRowC, costRowD, costRowE, costRowF]) 0 op

/-- The cost of an extended opcode (R176, R184): 8 for a register, 16 for `(HL)`, 12 for
`BIT b,(HL)`. -/
def extendedCost (op2 : Byte) : Nat :=
  if op2.extractLsb' 0 3 = 6#3 then (if op2.extractLsb' 6 2 = 1#2 then 12 else 16) else 8

/-- The not-taken cost of a conditional transfer, `none` for any other opcode (R184): JR cc, RET cc,
JP cc, CALL cc, by their patterns. -/
def notTakenCost (op : Byte) : Option Nat :=
  if op &&& 0xE7#8 = 0x20#8 then some 8
  else if op &&& 0xE7#8 = 0xC0#8 then some 8
  else if op &&& 0xE7#8 = 0xC2#8 then some 12
  else if op &&& 0xE7#8 = 0xC4#8 then some 12
  else none

/-- The cost of the instruction with opcode byte `op` and second byte `op2` in state `s` (R184, R300). -/
def costOfBytes (s : State) (op op2 : Byte) : Nat :=
  if op = 0xCB#8 then extendedCost op2
  else
    match notTakenCost op with
    | some n => if condHolds s (condOf (op.extractLsb' 3 2)) = true then takenCost op else n
    | none => takenCost op

/-- The cost of an instruction in state `s` (R184, R401). -/
def costOf (s : State) (i : Instr) : Nat := costOfBytes s i.opcode ((encode i).getD 1 0#8)

end Sys2Proof.Machine
end

