-- ==== Sys2Proof/Certificates/Slice0/Obligations.lean ====
section
/-! DEFINITION. The statements for the provers. First the terms they are written in, in namespace
`Sys2Proof.Claims`: the operand fields, the flag byte and the arithmetic of the spec's formulas, written from the rules
and not from the model's own operations; then one `def Obligations.<Name>` per statement. -/

open Sys2Proof Sys2Proof.Machine

namespace Sys2Proof.Claims

/-! ## Terms -/

/-- The byte of F with the four flags (R22). -/
def fByte (z n h c : Bool) : Byte :=
  (if z = true then 0x80#8 else 0#8) ||| (if n = true then 0x40#8 else 0#8)
    ||| (if h = true then 0x20#8 else 0#8) ||| (if c = true then 0x10#8 else 0#8)

/-- The carry flag as a number. -/
def carryNat (s : State) : Nat := if flagC s = true then 1 else 0

/-- The 8-bit operand of the field `r`: `B C D E H L (HL) A` (R172). -/
def operand (s : State) (r : BitVec 3) : Byte :=
  if r = 0#3 then s.regs.b
  else if r = 1#3 then s.regs.c
  else if r = 2#3 then s.regs.d
  else if r = 3#3 then s.regs.e
  else if r = 4#3 then s.regs.h
  else if r = 5#3 then s.regs.l
  else if r = 6#3 then memRead s (mkWord s.regs.h s.regs.l)
  else s.regs.a

/-- The state after that operand is read. -/
def afterOperand (s : State) (r : BitVec 3) : State :=
  if r = 6#3 then afterRead s (mkWord s.regs.h s.regs.l) else s

/-- The state with the operand of the field `r` written (R172). -/
def putOperand (s : State) (r : BitVec 3) (v : Byte) : State :=
  if r = 0#3 then { s with regs := { s.regs with b := v } }
  else if r = 1#3 then { s with regs := { s.regs with c := v } }
  else if r = 2#3 then { s with regs := { s.regs with d := v } }
  else if r = 3#3 then { s with regs := { s.regs with e := v } }
  else if r = 4#3 then { s with regs := { s.regs with h := v } }
  else if r = 5#3 then { s with regs := { s.regs with l := v } }
  else if r = 6#3 then memWrite s (mkWord s.regs.h s.regs.l) v
  else { s with regs := { s.regs with a := v } }

/-- The pair of the field `rr`: `BC DE HL SP` (R173). -/
def pair (s : State) (p : BitVec 2) : Word :=
  if p = 0#2 then mkWord s.regs.b s.regs.c
  else if p = 1#2 then mkWord s.regs.d s.regs.e
  else if p = 2#2 then mkWord s.regs.h s.regs.l
  else s.regs.sp

/-- The state with the pair of the field `rr` written, both halves at once (R21, R173). -/
def putPair (s : State) (p : BitVec 2) (w : Word) : State :=
  if p = 0#2 then { s with regs := { s.regs with b := hiByte w, c := loByte w } }
  else if p = 1#2 then { s with regs := { s.regs with d := hiByte w, e := loByte w } }
  else if p = 2#2 then { s with regs := { s.regs with h := hiByte w, l := loByte w } }
  else { s with regs := { s.regs with sp := w } }

/-- The pair of the field `qq`: `BC DE HL AF` (R173). -/
def stackPair (s : State) (p : BitVec 2) : Word :=
  if p = 3#2 then mkWord s.regs.a s.regs.f else pair s p

/-- The state with the pair of the field `qq` written; F keeps only its high four bits (R21, R222). -/
def putStackPair (s : State) (p : BitVec 2) (w : Word) : State :=
  if p = 3#2 then { s with regs := { s.regs with a := hiByte w, f := loByte w &&& 0xF0#8 } } else putPair s p w

/-- `Cond(cc)` (R300). -/
def holds (s : State) (cc : BitVec 2) : Bool :=
  if cc = 0#2 then !flagZ s else if cc = 1#2 then flagZ s else if cc = 2#2 then !flagC s else flagC s

/-- A word moved by a signed displacement, modulo 2^16 (R11, R179). -/
def displaced (w : Word) (e : Byte) : Word := BitVec.ofInt 16 ((w.toNat : Int) + e.toInt)

/-- The state with F written. -/
def withF (s : State) (f : Byte) : State := { s with regs := { s.regs with f := f } }

/-- The state with A and F written. -/
def withAF (s : State) (a f : Byte) : State := { s with regs := { s.regs with a := a, f := f } }

/-- The state with the cost of the instruction. -/
def costing (n : Nat) (s : State) : State := { s with cycles := n }

/-- `Push16(v)` (R220): the high byte at SP - 1, then the low byte at SP - 2, SP left 2 lower. -/
def pushed (s : State) (v : Word) : State :=
  let s1 := memWrite { s with regs := { s.regs with sp := s.regs.sp - 1#16 } } (s.regs.sp - 1#16) (hiByte v)
  memWrite { s1 with regs := { s1.regs with sp := s.regs.sp - 2#16 } } (s.regs.sp - 2#16) (loByte v)

/-- The state after the two reads of `Pop16()` (R221), SP left 2 higher. -/
def popped (s : State) : State :=
  let s2 := afterRead (afterRead s s.regs.sp) (s.regs.sp + 1#16)
  { s2 with regs := { s2.regs with sp := s.regs.sp + 2#16 } }

/-- The word `Pop16()` returns (R221): the low byte from SP, the high byte from SP + 1. -/
def popWord (s : State) : Word :=
  mkWord (memRead (afterRead s s.regs.sp) (s.regs.sp + 1#16)) (memRead s s.regs.sp)

/-- The result of the accumulator operation `y` (R177, R231 to R238), as a number; CP keeps A. -/
def aluValue (y : BitVec 3) (a b : Byte) (c : Nat) : Byte :=
  if y = 0#3 then BitVec.ofNat 8 (a.toNat + b.toNat)
  else if y = 1#3 then BitVec.ofNat 8 (a.toNat + b.toNat + c)
  else if y = 2#3 then BitVec.ofInt 8 ((a.toNat : Int) - b.toNat)
  else if y = 3#3 then BitVec.ofInt 8 ((a.toNat : Int) - b.toNat - c)
  else if y = 4#3 then a &&& b
  else if y = 5#3 then a ^^^ b
  else if y = 6#3 then a ||| b
  else a

/-- The flags of the accumulator operation `y` (R231 to R238). -/
def aluFlagByte (y : BitVec 3) (a b : Byte) (c : Nat) : Byte :=
  let an := a.toNat
  let bn := b.toNat
  if y = 0#3 then fByte (aluValue y a b c == 0#8) false (decide (an % 16 + bn % 16 > 15)) (decide (an + bn > 255))
  else if y = 1#3 then
    fByte (aluValue y a b c == 0#8) false (decide (an % 16 + bn % 16 + c > 15)) (decide (an + bn + c > 255))
  else if y = 2#3 then fByte (aluValue y a b c == 0#8) true (decide (an % 16 < bn % 16)) (decide (an < bn))
  else if y = 3#3 then
    fByte (aluValue y a b c == 0#8) true (decide (an % 16 < bn % 16 + c)) (decide (an < bn + c))
  else if y = 4#3 then fByte (a &&& b == 0#8) false true false
  else if y = 5#3 then fByte (a ^^^ b == 0#8) false false false
  else if y = 6#3 then fByte (a ||| b == 0#8) false false false
  else fByte (a == b) true (decide (an % 16 < bn % 16)) (decide (an < bn))

/-- The rotated, shifted or swapped value of operation `y` (R178, R275 to R282). -/
def shiftResult (y : BitVec 3) (x : Byte) (c : Bool) : Byte :=
  let n := x.toNat
  let ci := if c = true then 1 else 0
  BitVec.ofNat 8
    (if y = 0#3 then 2 * n + n / 128
     else if y = 1#3 then n / 2 + 128 * (n % 2)
     else if y = 2#3 then 2 * n + ci
     else if y = 3#3 then n / 2 + 128 * ci
     else if y = 4#3 then 2 * n
     else if y = 5#3 then n / 2 + 128 * (n / 128)
     else if y = 6#3 then 16 * n + n / 16
     else n / 2)

/-- The carry of operation `y`: the bit shifted out (R275 to R282), 0 for SWAP. -/
def shiftOutBit (y : BitVec 3) (x : Byte) : Bool :=
  if y = 0#3 ∨ y = 2#3 ∨ y = 4#3 then decide (x.toNat ≥ 128)
  else if y = 6#3 then false
  else decide (x.toNat % 2 = 1)

/-- DAA's value after the high adjustment (R243): its first line in each branch. -/
def daaFirst (a : Nat) (n c : Bool) : Nat :=
  if n = false then (if c = true ∨ a > 0x99 then (a + 0x60) % 256 else a)
  else (if c = true then (a + 256 - 0x60) % 256 else a)

/-- DAA's value (R243), as a number. -/
def daaValue (a : Nat) (n h c : Bool) : Nat :=
  let a1 := daaFirst a n c
  if n = false then (if h = true ∨ a1 % 16 > 9 then (a1 + 6) % 256 else a1)
  else (if h = true then (a1 + 256 - 6) % 256 else a1)

/-- A number below 100 as two packed decimal digits. -/
def packedDecimal (n : Nat) : Byte := BitVec.ofNat 8 (16 * (n / 10) + n % 10)

end Sys2Proof.Claims

open Sys2Proof.Claims

/-! ## Encoding (30_encoding.md) -/

/-- The decoder reads back every instruction the encoder writes, with every operand value, whatever bytes follow. -/
def Obligations.DecodeOfEncode : Prop :=
  ∀ (i : Instr) (rest : List Byte), decode (encode i ++ rest) = .ok (i, rest)

/-- Where the decoder reads an instruction, the bytes it took are that instruction's encoding: no two encodings share an
instruction and no bit of one is dropped. -/
def Obligations.EncodeOfDecode : Prop :=
  ∀ (bytes rest : List Byte) (i : Instr), decode bytes = .ok (i, rest) → encode i ++ rest = bytes

/-- R183: the length is given by the first byte alone, by the lists of the rule. -/
def Obligations.LengthByFirstByte : Prop :=
  ∀ (i : Instr),
    (encode i).length
      = if i.opcode ∈ [0x01#8, 0x11#8, 0x21#8, 0x31#8, 0x08#8, 0xC2#8, 0xC3#8, 0xC4#8, 0xCA#8]
            ++ [0xCC#8, 0xCD#8, 0xD2#8, 0xD4#8, 0xDA#8, 0xDC#8, 0xEA#8, 0xFA#8] then 3
        else if i.opcode ∈ [0xCB#8, 0x10#8] then 2
        else if i.opcode ∈ [0x06#8, 0x0E#8, 0x16#8, 0x1E#8, 0x26#8, 0x2E#8, 0x36#8, 0x3E#8, 0x18#8, 0x20#8]
            ++ [0x28#8, 0x30#8, 0x38#8, 0xC6#8, 0xCE#8, 0xD6#8, 0xDE#8, 0xE6#8, 0xEE#8, 0xF6#8]
            ++ [0xFE#8, 0xE0#8, 0xF0#8, 0xE8#8, 0xF8#8] then 2
        else 1

/-- R181, R327: the eleven illegal bytes end the run, changing the run state only; every other opcode byte, and every byte
after the prefix, is an instruction that runs and does not fault. That a fault is a next state whose run state is `Faulted` is
the model's form of R430 (log 14); `instrAddr` is a field of the model (log 15). -/
def Obligations.IllegalOpcodesAreFatal : Prop :=
  ∀ (op b1 b2 : Byte) (s : State),
    (op ∈ [0xD3#8, 0xDB#8, 0xDD#8, 0xE3#8, 0xE4#8, 0xEB#8] ++ [0xEC#8, 0xED#8, 0xF4#8, 0xFC#8, 0xFD#8] →
      instrLength op = 1 ∧
      exec (decodeInstr op b1 b2) s = .next { s with runState := .faulted (.illegalOpcode op s.instrAddr) })
    ∧ (op ∉ [0xD3#8, 0xDB#8, 0xDD#8, 0xE3#8, 0xE4#8, 0xEB#8] ++ [0xEC#8, 0xED#8, 0xF4#8, 0xFC#8, 0xFD#8] →
      ∃ t, exec (decodeInstr op b1 b2) s = .next t ∧ (isFaulted s = false → isFaulted t = false))

/-- Words written out from Table E-1, Table E-2 and the formats of R171, one of each family at least. -/
def Obligations.DecodedWords : Prop :=
  decode [0b01000001#8] = .ok (.ld_B_C, [])
    ∧ decode [0b00111110#8, 0x5A#8] = .ok (.ld_A_d8 0x5A#8, [])
    ∧ decode [0x31#8, 0xFE#8, 0xFF#8] = .ok (.ld_SP_d16 0xFFFE#16, [])
    ∧ decode [0b11100010#8] = .ok (.ld_mC_A, [])
    ∧ decode [0b11110101#8] = .ok (.push_AF, [])
    ∧ decode [0b10001011#8] = .ok (.adc_A_E, [])
    ∧ decode [0b11111110#8, 0x0F#8] = .ok (.cp_d8 0x0F#8, [])
    ∧ decode [0b00110101#8] = .ok (.dec_mHL, [])
    ∧ decode [0b00111001#8] = .ok (.add_HL_SP, [])
    ∧ decode [0xCB#8, 0b00110111#8] = .ok (.swap_A, [])
    ∧ decode [0xCB#8, 0b01111100#8] = .ok (.bit_7_H, [])
    ∧ decode [0xCB#8, 0b11011110#8, 0x00#8] = .ok (.set_3_mHL, [0x00#8])
    ∧ decode [0xC2#8, 0x34#8, 0x12#8] = .ok (.jp_NZ_a16 0x1234#16, [])
    ∧ decode [0b00111000#8, 0xFB#8] = .ok (.jr_C_e8 0xFB#8, [])
    ∧ decode [0b11101111#8] = .ok (.rst_0x28, [])
    ∧ decode [0b01110110#8] = .ok (.halt, [])
    ∧ decode [0x10#8, 0x00#8, 0x76#8] = .ok (.stop 0x00#8, [0x76#8])
    ∧ decode [0xD3#8] = .ok (.illegal_D3, [])
    ∧ decode [0xC3#8, 0x50#8] = .error (.truncated 0xC3#8)

/-! ## Loads (40_loads.md) -/

/-- R200 to R204: `LD r,r'`, `LD r,(HL)` and `LD (HL),r`, every field value but the HALT pattern, and `LD r,d8` and
`LD (HL),d8`. -/
def Obligations.LoadForms : Prop :=
  ∀ (y z : BitVec 3) (b1 b2 : Byte) (s : State),
    (¬(y = 6#3 ∧ z = 6#3) →
      instrLength (1#2 ++ y ++ z) = 1 ∧
      exec (decodeInstr (1#2 ++ y ++ z) b1 b2) s
        = .next (costing (if y = 6#3 ∨ z = 6#3 then 8 else 4) (putOperand (afterOperand s z) y (operand s z))))
    ∧ (instrLength (0#2 ++ y ++ 6#3) = 2 ∧
      exec (decodeInstr (0#2 ++ y ++ 6#3) b1 b2) s
        = .next (costing (if y = 6#3 then 12 else 8) (putOperand s y b1)))

/-- R205 to R214: A loaded from, and stored at, the address of each form. -/
def Obligations.AccumulatorMemoryForms : Prop :=
  ∀ (b1 b2 : Byte) (s : State),
    let loadsFrom := fun (op : Byte) (len : Nat) (a : Word) (n : Nat) =>
      instrLength op = len ∧
      exec (decodeInstr op b1 b2) s
        = .next (costing n { afterRead s a with regs := { s.regs with a := memRead s a } })
    let storesTo := fun (op : Byte) (len : Nat) (a : Word) (n : Nat) =>
      instrLength op = len ∧ exec (decodeInstr op b1 b2) s = .next (costing n (memWrite s a s.regs.a))
    (loadsFrom 0x0A#8 1 (mkWord s.regs.b s.regs.c) 8
      ∧ loadsFrom 0x1A#8 1 (mkWord s.regs.d s.regs.e) 8
      ∧ loadsFrom 0xFA#8 3 (mkWord b2 b1) 16
      ∧ loadsFrom 0xF0#8 2 (0xFF00#16 + b1.zeroExtend 16) 12
      ∧ loadsFrom 0xF2#8 1 (0xFF00#16 + s.regs.c.zeroExtend 16) 8)
    ∧ (storesTo 0x02#8 1 (mkWord s.regs.b s.regs.c) 8
      ∧ storesTo 0x12#8 1 (mkWord s.regs.d s.regs.e) 8
      ∧ storesTo 0xEA#8 3 (mkWord b2 b1) 16
      ∧ storesTo 0xE0#8 2 (0xFF00#16 + b1.zeroExtend 16) 12
      ∧ storesTo 0xE2#8 1 (0xFF00#16 + s.regs.c.zeroExtend 16) 8)

/-- R215 to R218: the loads and stores that move HL by one after the access. -/
def Obligations.StepLoadForms : Prop :=
  ∀ (b1 b2 : Byte) (s : State),
    let hl := mkWord s.regs.h s.regs.l
    let storesThenMovesTo := fun (op : Byte) (w : Word) =>
      instrLength op = 1 ∧
      exec (decodeInstr op b1 b2) s = .next (costing 8 (putPair (memWrite s hl s.regs.a) 2#2 w))
    let loadsThenMovesTo := fun (op : Byte) (w : Word) =>
      instrLength op = 1 ∧
      exec (decodeInstr op b1 b2) s
        = .next (costing 8 (putPair { afterRead s hl with regs := { s.regs with a := memRead s hl } } 2#2 w))
    storesThenMovesTo 0x22#8 (hl + 1#16) ∧ storesThenMovesTo 0x32#8 (hl - 1#16)
      ∧ loadsThenMovesTo 0x2A#8 (hl + 1#16) ∧ loadsThenMovesTo 0x3A#8 (hl - 1#16)

/-- R219, R225, R226, R227: the 16-bit loads. -/
def Obligations.LoadPairForms : Prop :=
  ∀ (p : BitVec 2) (b1 b2 : Byte) (s : State),
    (instrLength (0#2 ++ p ++ 1#4) = 3 ∧
      exec (decodeInstr (0#2 ++ p ++ 1#4) b1 b2) s = .next (costing 12 (putPair s p (mkWord b2 b1))))
    ∧ (instrLength 0x08#8 = 3 ∧
      exec (decodeInstr 0x08#8 b1 b2) s
        = .next (costing 20
            (memWrite (memWrite s (mkWord b2 b1) (loByte s.regs.sp)) (mkWord b2 b1 + 1#16) (hiByte s.regs.sp))))
    ∧ (instrLength 0xF9#8 = 1 ∧
      exec (decodeInstr 0xF9#8 b1 b2) s
        = .next (costing 8 { s with regs := { s.regs with sp := mkWord s.regs.h s.regs.l } }))
    ∧ (instrLength 0xF8#8 = 2 ∧
      exec (decodeInstr 0xF8#8 b1 b2) s
        = .next (costing 12
            (withF (putPair s 2#2 (displaced s.regs.sp b1))
              (fByte false false (decide (s.regs.sp.toNat % 16 + b1.toNat % 16 > 15))
                (decide (s.regs.sp.toNat % 256 + b1.toNat > 255))))))

/-- R220 to R224: PUSH and POP, every pair. -/
def Obligations.StackForms : Prop :=
  ∀ (p : BitVec 2) (b1 b2 : Byte) (s : State),
    (instrLength (3#2 ++ p ++ 5#4) = 1 ∧
      exec (decodeInstr (3#2 ++ p ++ 5#4) b1 b2) s = .next (costing 16 (pushed s (stackPair s p))))
    ∧ (instrLength (3#2 ++ p ++ 1#4) = 1 ∧
      exec (decodeInstr (3#2 ++ p ++ 1#4) b1 b2) s = .next (costing 12 (putStackPair (popped s) p (popWord s))))

/-- R100, R220, R221: with both stack bytes in RAM that the display does not own, a push leaves the low byte at
the lower address, and a pop at the same SP returns the pushed value. `Memory.wf` is the invariant of
`Obligations.StepKeepsTheStorage`. -/
def Obligations.PopReturnsPushed : Prop :=
  ∀ (s : State) (v : Word), Memory.wf s.mem →
    (∀ a ∈ pushAddrs s, storable s a = true) →
    memRead (push16 s v) (s.regs.sp - 2#16) = loByte v
      ∧ memRead (push16 s v) (s.regs.sp - 1#16) = hiByte v
      ∧ (push16 s v).regs.sp = s.regs.sp - 2#16
      ∧ (pop16 (push16 s v)).1 = v
      ∧ (pop16 (push16 s v)).2.regs.sp = s.regs.sp

/-! ## 8-bit arithmetic and logic (41_alu8.md) -/

/-- R230 to R238: the eight accumulator operations in their three source forms. -/
def Obligations.AccumulatorOperations : Prop :=
  ∀ (y z : BitVec 3) (b1 b2 : Byte) (s : State),
    (instrLength (2#2 ++ y ++ z) = 1 ∧
      exec (decodeInstr (2#2 ++ y ++ z) b1 b2) s
        = .next (costing (if z = 6#3 then 8 else 4)
            (withAF (afterOperand s z) (aluValue y s.regs.a (operand s z) (carryNat s))
              (aluFlagByte y s.regs.a (operand s z) (carryNat s)))))
    ∧ (instrLength (3#2 ++ y ++ 6#3) = 2 ∧
      exec (decodeInstr (3#2 ++ y ++ 6#3) b1 b2) s
        = .next (costing 8
            (withAF s (aluValue y s.regs.a b1 (carryNat s)) (aluFlagByte y s.regs.a b1 (carryNat s)))))

/-- R239 to R242: INC and DEC of a register and of the byte at HL. -/
def Obligations.IncrementDecrement : Prop :=
  ∀ (y : BitVec 3) (b1 b2 : Byte) (s : State),
    let old := operand s y
    let n := if y = 6#3 then 12 else 4
    let up := BitVec.ofNat 8 (old.toNat + 1)
    let down := BitVec.ofInt 8 ((old.toNat : Int) - 1)
    (instrLength (0#2 ++ y ++ 4#3) = 1 ∧
      exec (decodeInstr (0#2 ++ y ++ 4#3) b1 b2) s
        = .next (costing n (withF (putOperand (afterOperand s y) y up)
            (fByte (up == 0#8) false (decide (old.toNat % 16 = 15)) (flagC s)))))
    ∧ (instrLength (0#2 ++ y ++ 5#3) = 1 ∧
      exec (decodeInstr (0#2 ++ y ++ 5#3) b1 b2) s
        = .next (costing n (withF (putOperand (afterOperand s y) y down)
            (fByte (down == 0#8) true (decide (old.toNat % 16 = 0)) (flagC s)))))

/-- What DAA is for (R243): ADC and then DAA leaves the packed decimal sum of two packed decimal numbers with its
carry, and SBC and then DAA their packed decimal difference with its borrow. -/
def Obligations.DecimalAdjustCorrectsBcd : Prop :=
  ∀ (x y : Nat) (s : State), x < 100 → y < 100 → s.regs.a = packedDecimal x →
    (∃ t u, exec (.adc_A_d8 (packedDecimal y)) s = .next t ∧ exec .daa t = .next u
      ∧ u.regs.a = packedDecimal ((x + y + carryNat s) % 100)
      ∧ flagC u = decide (x + y + carryNat s ≥ 100))
    ∧ (∃ t u, exec (.sbc_A_d8 (packedDecimal y)) s = .next t ∧ exec .daa t = .next u
      ∧ u.regs.a = packedDecimal ((x + 100 - y - carryNat s) % 100)
      ∧ flagC u = decide (x < y + carryNat s))

/-- R243 to R246: DAA (every one of its 2^12 inputs), CPL, SCF, CCF. -/
def Obligations.AccumulatorAdjustments : Prop :=
  ∀ (b1 b2 : Byte) (s : State),
    let v := daaValue s.regs.a.toNat (flagN s) (flagH s) (flagC s)
    let c := flagC s || (!flagN s && decide (s.regs.a.toNat > 0x99))
    (instrLength 0x27#8 = 1 ∧
      exec (decodeInstr 0x27#8 b1 b2) s
        = .next (costing 4 (withAF s (BitVec.ofNat 8 v) (fByte (decide (v = 0)) (flagN s) false c))))
    ∧ (instrLength 0x2F#8 = 1 ∧
      exec (decodeInstr 0x2F#8 b1 b2) s
        = .next (costing 4 (withAF s (BitVec.ofNat 8 (255 - s.regs.a.toNat)) (fByte (flagZ s) true true (flagC s)))))
    ∧ (instrLength 0x37#8 = 1 ∧
      exec (decodeInstr 0x37#8 b1 b2) s = .next (costing 4 (withF s (fByte (flagZ s) false false true))))
    ∧ (instrLength 0x3F#8 = 1 ∧
      exec (decodeInstr 0x3F#8 b1 b2) s = .next (costing 4 (withF s (fByte (flagZ s) false false (!flagC s)))))

/-! ## 16-bit arithmetic (42_alu16.md) -/

/-- R260 to R263: ADD HL,rr; INC rr; DEC rr; ADD SP,e8. -/
def Obligations.WideArithmetic : Prop :=
  ∀ (p : BitVec 2) (b1 b2 : Byte) (s : State),
    let hl := (mkWord s.regs.h s.regs.l).toNat
    let b := (pair s p).toNat
    (instrLength (0#2 ++ p ++ 9#4) = 1 ∧
      exec (decodeInstr (0#2 ++ p ++ 9#4) b1 b2) s
        = .next (costing 8 (withF (putPair s 2#2 (BitVec.ofNat 16 (hl + b)))
            (fByte (flagZ s) false (decide (hl % 4096 + b % 4096 > 4095)) (decide (hl + b > 65535))))))
    ∧ (instrLength (0#2 ++ p ++ 3#4) = 1 ∧
      exec (decodeInstr (0#2 ++ p ++ 3#4) b1 b2) s = .next (costing 8 (putPair s p (BitVec.ofNat 16 (b + 1)))))
    ∧ (instrLength (0#2 ++ p ++ 11#4) = 1 ∧
      exec (decodeInstr (0#2 ++ p ++ 11#4) b1 b2) s = .next (costing 8 (putPair s p (BitVec.ofInt 16 ((b : Int) - 1)))))
    ∧ (instrLength 0xE8#8 = 2 ∧
      exec (decodeInstr 0xE8#8 b1 b2) s
        = .next (costing 16 (withF { s with regs := { s.regs with sp := displaced s.regs.sp b1 } }
            (fByte false false (decide (s.regs.sp.toNat % 16 + b1.toNat % 16 > 15))
              (decide (s.regs.sp.toNat % 256 + b1.toNat > 255))))))

/-! ## Rotates, shifts and bit operations (43_rotate_bit.md) -/

/-- R270 to R282: RLCA, RRCA, RLA, RRA, whose Z is always 0, and the extended rotates, shifts and SWAP. -/
def Obligations.RotatesAndShifts : Prop :=
  (∀ (y : BitVec 2) (b1 b2 : Byte) (s : State),
    instrLength (0#3 ++ y ++ 7#3) = 1 ∧
    exec (decodeInstr (0#3 ++ y ++ 7#3) b1 b2) s
      = .next (costing 4 (withAF s (shiftResult (0#1 ++ y) s.regs.a (flagC s))
          (fByte false false false (shiftOutBit (0#1 ++ y) s.regs.a)))))
  ∧ (∀ (y z : BitVec 3) (b2 : Byte) (s : State),
    let x := operand s z
    let v := shiftResult y x (flagC s)
    instrLength 0xCB#8 = 2 ∧
    exec (decodeInstr 0xCB#8 (0#2 ++ y ++ z) b2) s
      = .next (costing (if z = 6#3 then 16 else 8)
          (withF (putOperand (afterOperand s z) z v) (fByte (v == 0#8) false false (shiftOutBit y x)))))

/-- R283 to R285: BIT, RES, SET, every bit and operand. -/
def Obligations.BitOperations : Prop :=
  ∀ (y z : BitVec 3) (b2 : Byte) (s : State),
    let x := operand s z
    let n := if z = 6#3 then 16 else 8
    instrLength 0xCB#8 = 2 ∧
    exec (decodeInstr 0xCB#8 (1#2 ++ y ++ z) b2) s
        = .next (costing (if z = 6#3 then 12 else 8)
            (withF (afterOperand s z) (fByte (!x.getLsbD y.toNat) false true (flagC s))))
    ∧ exec (decodeInstr 0xCB#8 (2#2 ++ y ++ z) b2) s
        = .next (costing n (putOperand (afterOperand s z) z (x &&& ~~~(1#8 <<< y.toNat))))
    ∧ exec (decodeInstr 0xCB#8 (3#2 ++ y ++ z) b2) s
        = .next (costing n (putOperand (afterOperand s z) z (x ||| (1#8 <<< y.toNat))))

/-! ## Control transfers (44_control.md) -/

/-- R301 to R305: the jumps. PC is already past the instruction. -/
def Obligations.Jumps : Prop :=
  ∀ (cc : BitVec 2) (b1 b2 : Byte) (s : State),
    let goes := fun (a : Word) (n : Nat) => Host.Outcome.next (costing n { s with regs := { s.regs with pc := a } })
    let stays := fun (n : Nat) => Host.Outcome.next (costing n s)
    (instrLength 0xC3#8 = 3 ∧ exec (decodeInstr 0xC3#8 b1 b2) s = goes (mkWord b2 b1) 16)
    ∧ (instrLength (6#3 ++ cc ++ 2#3) = 3 ∧
      exec (decodeInstr (6#3 ++ cc ++ 2#3) b1 b2) s = if holds s cc = true then goes (mkWord b2 b1) 16 else stays 12)
    ∧ (instrLength 0xE9#8 = 1 ∧ exec (decodeInstr 0xE9#8 b1 b2) s = goes (mkWord s.regs.h s.regs.l) 4)
    ∧ (instrLength 0x18#8 = 2 ∧ exec (decodeInstr 0x18#8 b1 b2) s = goes (displaced s.regs.pc b1) 12)
    ∧ (instrLength (1#3 ++ cc ++ 0#3) = 2 ∧
      exec (decodeInstr (1#3 ++ cc ++ 0#3) b1 b2) s
        = if holds s cc = true then goes (displaced s.regs.pc b1) 12 else stays 8)

/-- R306 to R311: calls, returns and restarts. PC is already past the instruction. -/
def Obligations.CallsAndReturns : Prop :=
  ∀ (cc : BitVec 2) (y : BitVec 3) (b1 b2 : Byte) (s : State),
    let calls := fun (a : Word) (n : Nat) =>
      Host.Outcome.next (costing n { pushed s s.regs.pc with regs := { (pushed s s.regs.pc).regs with pc := a } })
    let back := { popped s with regs := { (popped s).regs with pc := popWord s } }
    let stays := fun (n : Nat) => Host.Outcome.next (costing n s)
    (instrLength 0xCD#8 = 3 ∧ exec (decodeInstr 0xCD#8 b1 b2) s = calls (mkWord b2 b1) 24)
    ∧ (instrLength (6#3 ++ cc ++ 4#3) = 3 ∧
      exec (decodeInstr (6#3 ++ cc ++ 4#3) b1 b2) s = if holds s cc = true then calls (mkWord b2 b1) 24 else stays 12)
    ∧ (instrLength 0xC9#8 = 1 ∧ exec (decodeInstr 0xC9#8 b1 b2) s = .next (costing 16 back))
    ∧ (instrLength (6#3 ++ cc ++ 0#3) = 1 ∧
      exec (decodeInstr (6#3 ++ cc ++ 0#3) b1 b2) s = if holds s cc = true then .next (costing 20 back) else stays 8)
    ∧ (instrLength 0xD9#8 = 1 ∧
      exec (decodeInstr 0xD9#8 b1 b2) s = .next (costing 16 { back with ime := true, eiDelay := 0 }))
    ∧ (instrLength (3#2 ++ y ++ 7#3) = 1 ∧
      exec (decodeInstr (3#2 ++ y ++ 7#3) b1 b2) s = calls (BitVec.ofNat 16 (8 * y.toNat)) 16)

/-! ## System instructions (45_system.md) -/

/-- R320, R321, R323, R324, R325: NOP, HALT, STOP, DI, EI. -/
def Obligations.SystemInstructions : Prop :=
  ∀ (b1 b2 : Byte) (s : State),
    let pending := (s.ie &&& (0#3 ++ s.iflag)) ≠ 0#8
    (instrLength 0x00#8 = 1 ∧ exec (decodeInstr 0x00#8 b1 b2) s = .next (costing 4 s))
    ∧ (instrLength 0x76#8 = 1 ∧
      (s.ime = true ∨ ¬pending →
        exec (decodeInstr 0x76#8 b1 b2) s = .next (costing 4 { s with runState := .halted })) ∧
      (s.ime = false → pending → s.haltBug = true →
        exec (decodeInstr 0x76#8 b1 b2) s = .next (costing 4 { s with haltBugPending := true })) ∧
      (s.ime = false → pending → s.haltBug = false →
        exec (decodeInstr 0x76#8 b1 b2) s = .next (costing 4 s)))
    ∧ (instrLength 0x10#8 = 2 ∧
      exec (decodeInstr 0x10#8 b1 b2) s
        = .next (costing 4 { s with timer := { s.timer with div := 0#8, divAcc := 0 }, runState := .stopped }))
    ∧ (instrLength 0xF3#8 = 1 ∧
      exec (decodeInstr 0xF3#8 b1 b2) s = .next (costing 4 { s with ime := false, eiDelay := 0 }))
    ∧ (instrLength 0xFB#8 = 1 ∧
      exec (decodeInstr 0xFB#8 b1 b2) s
        = .next (costing 4 (if s.ime = false ∧ s.eiDelay = 0 then { s with eiDelay := 2 } else s)))

/-! ## Completion and frames -/

/-- Every instruction but the eleven illegal ones runs in every state, at the cost of R184, and does not fault. -/
def Obligations.EveryLegalInstructionCompletes : Prop :=
  ∀ (i : Instr) (s : State), i.wellFormed = true →
    ∃ t, exec i s = .next t ∧ t.cycles = costOf s i ∧ t.cycles % 4 = 0 ∧ 4 ≤ t.cycles ∧ t.cycles ≤ 24
      ∧ (isFaulted s = false → isFaulted t = false)

/-- Where the addresses an instruction stores to are RAM that the display does not own, every byte but those (and their
echoes) reads as before; a form that stores nothing leaves every byte. P1 (0xFF00) is apart, as its read value is the
host's button state, and DIV (0xFF04) after STOP. -/
def Obligations.MemoryFrame : Prop :=
  ∀ (i : Instr) (s t : State), Memory.wf s.mem → exec i s = .next t →
    (∀ a ∈ storeAddrs s i, storable s a = true) →
    ∀ b : Word, b ≠ 0xFF00#16 → (b = 0xFF04#16 → ∀ v, i ≠ .stop v) →
      (∀ a ∈ storeAddrs s i, ramCell b ≠ ramCell a) → memRead t b = memRead s b

/-- An instruction that stores nothing and is no control instruction changes the CPU registers and nothing else; the
BUTTONS oracle moves on where a read of P1 asked it (log 5). -/
def Obligations.NonStoringFrame : Prop :=
  ∀ (i : Instr) (s t : State), exec i s = .next t → storeAddrs s i = [] → controlInstr i = false →
    t = { s with regs := t.regs, cycles := t.cycles, host := { s.host with buttons := t.host.buttons } }

/-- Only HALT, STOP, DI, EI, RETI and the illegal opcodes change IME, the scheduled enable, the run state or the pending
HALT bug; no instruction changes HALT_BUG, the cartridge or its image, or the outputs of the step. -/
def Obligations.ControlStateFrame : Prop :=
  ∀ (i : Instr) (s t : State), exec i s = .next t →
    (controlInstr i = false →
      t.ime = s.ime ∧ t.eiDelay = s.eiDelay ∧ t.runState = s.runState ∧ t.haltBugPending = s.haltBugPending)
    ∧ t.haltBug = s.haltBug ∧ t.cart = s.cart ∧ t.out = s.out ∧ t.instrAddr = s.instrAddr ∧ t.joyPrev = s.joyPrev

/-! ## The step (60_exceptions.md sections 1 to 4) -/

/-- R400, R405: while running, with no HALT bug pending and no interrupt to take, a step is `exec` of the instruction that
the bytes at PC decode to, with PC past them, and then the end of the step (`afterCpu`). `beginStep` is the host's part (log 7),
`instrAddr` a field of the model (log 15). -/
def Obligations.StepRunsTheDecodedInstruction : Prop :=
  ∀ (s : State) (i : Instr) (rest : List Byte),
    s.runState = .running → s.haltBugPending = false → (s.ime = false ∨ pendingLines s = 0#5) →
    decode [memRead s s.regs.pc, memRead s (s.regs.pc + 1#16), memRead s (s.regs.pc + 2#16)] = .ok (i, rest) →
    step s = afterCpu (exec i
      { afterRead (beginStep s) s.regs.pc with
        instrAddr := s.regs.pc
        regs := { s.regs with pc := s.regs.pc + BitVec.ofNat 16 (encode i).length } })

/-- R322, R405: with the HALT bug pending, the byte at PC is read twice, as the opcode and, for a longer instruction, as its
first immediate byte, and PC ends one short. `beginStep` is the host's part (log 7), `instrAddr` a field of the model (log 15): both
are the model's choice. -/
def Obligations.HaltBugReadsTheByteTwice : Prop :=
  ∀ (s : State) (i : Instr) (rest : List Byte),
    let pc := s.regs.pc
    s.runState = .running → s.haltBugPending = true → (s.ime = false ∨ pendingLines s = 0#5) →
    decode [memRead s pc, memRead (afterRead s pc) pc, memRead s (pc + 1#16)] = .ok (i, rest) →
    step s = afterCpu (exec i
      { (if (encode i).length = 1 then afterRead (beginStep s) pc else afterRead (afterRead (beginStep s) pc) pc) with
        haltBugPending := false
        instrAddr := pc
        regs := { s.regs with pc := pc + BitVec.ofNat 16 ((encode i).length - 1) } })

/-- R413, R414, R420: a running step with IME set takes the lowest line that is enabled and pending. `beginStep`, the host's
part before it, is the model's choice (log 7), and no part of those rules. -/
def Obligations.DispatchTakesTheLowestLine : Prop :=
  ∀ (s : State) (k : Nat), s.runState = .running → s.ime = true → k < 5 →
    s.ie.getLsbD k = true → s.iflag.getLsbD k = true →
    (∀ j, j < k → ¬(s.ie.getLsbD j = true ∧ s.iflag.getLsbD j = true)) →
    let ret := if s.haltBugPending = true then s.regs.pc - 1#16 else s.regs.pc
    let p := pushed { beginStep s with haltBugPending := false } ret
    step s = .next (finishStep { p with
      ime := false
      iflag := p.iflag &&& ~~~(1#5 <<< k)
      regs := { p.regs with pc := BitVec.ofNat 16 (0x0040 + 8 * k) }
      cycles := 20 })

/-- R321, R401, R423: a halted step with nothing pending costs 4 cycles and fetches nothing; with a line enabled and pending
it is the step of a running machine, whatever IME is. `beginStep`, the host's part, is the model's choice (log 7). -/
def Obligations.HaltedStep : Prop :=
  ∀ (s : State), s.runState = .halted →
    (s.ie.extractLsb' 0 5 &&& s.iflag = 0#5 → step s = .next (finishStep (costing 4 (beginStep s))))
    ∧ (s.ie.extractLsb' 0 5 &&& s.iflag ≠ 0#5 → step s = step { s with runState := .running })

/-- R323, R401, R481: a stopped step asks BUTTONS once; with no button pressed it costs 4 cycles and fetches nothing,
whatever is pending; with one pressed it is the step of a running machine. `beginStep`, the host's part, is the model's choice
(log 7). -/
def Obligations.StoppedStep : Prop :=
  ∀ (s : State), s.runState = .stopped →
    (s.host.buttons.now = ⟨0xF#4, 0xF#4⟩ → step s = .next (finishStep (costing 4 (drawButtons (beginStep s)))))
    ∧ (s.host.buttons.now ≠ ⟨0xF#4, 0xF#4⟩ → step s = step { drawButtons s with runState := .running })

/-- R18, R430, R432: a step answers a next state, or the machine was already in the terminal state; it never refuses. That the
faulting step itself answers a next state, and only the steps after it the fault outcome, is the model's reading (log 14). -/
def Obligations.StepStopsOnlyWhenFaulted : Prop :=
  ∀ (s : State),
    (∀ r, s.runState = .faulted r → step s = .fault (.faulted r))
    ∧ (isFaulted s = false → ∃ t, step s = .next t)

/-- R327, R430, R433: a step that fetches an illegal opcode ends in the terminal state with its reason: PC is past the
byte, and no device advances, no enable is counted and no input is sampled. `beginStep` is the host's part (log 7),
`instrAddr` a field of the model (log 15), and that the faulting step answers a next state is the model's reading (log 14). -/
def Obligations.IllegalOpcodeStep : Prop :=
  ∀ (s : State), s.runState = .running → s.haltBugPending = false → (s.ime = false ∨ pendingLines s = 0#5) →
    memRead s s.regs.pc ∈ [0xD3#8, 0xDB#8, 0xDD#8, 0xE3#8, 0xE4#8, 0xEB#8] ++ [0xEC#8, 0xED#8, 0xF4#8, 0xFC#8, 0xFD#8] →
    step s = .next
      { afterRead (beginStep s) s.regs.pc with
        runState := .faulted (.illegalOpcode (memRead s s.regs.pc) s.regs.pc)
        instrAddr := s.regs.pc
        regs := { s.regs with pc := s.regs.pc + 1#16 } }

/-- R325, R404, R621: the step of EI leaves IME clear with one step to go, and the step of the next instruction, which is
not interrupted, sets IME at its end unless it is itself a control instruction. -/
def Obligations.EnableTakesEffectOneInstructionLater : Prop :=
  (∀ (s : State), s.runState = .running → s.haltBugPending = false → s.ime = false → s.eiDelay = 0 →
    memRead s s.regs.pc = 0xFB#8 →
    ∃ t, step s = .next t ∧ t.ime = false ∧ t.eiDelay = 1 ∧ t.runState = .running)
  ∧ (∀ (s : State) (i : Instr) (rest : List Byte),
    s.runState = .running → s.haltBugPending = false → s.ime = false → s.eiDelay = 1 →
    decode [memRead s s.regs.pc, memRead s (s.regs.pc + 1#16), memRead s (s.regs.pc + 2#16)] = .ok (i, rest) →
    controlInstr i = false →
    ∃ t, step s = .next t ∧ t.ime = true ∧ t.eiDelay = 0 ∧ t.runState = .running)

/-! ## Invariants and whole-machine rules -/

/-- The state after reset meets every invariant. -/
def Obligations.ResetMeetsInv : Prop := Inv State.reset

/-- The state of every accepted power-on, in both boot modes and for every parameter, meets every invariant. That bits which a
register does not have are dropped from the fill and from a saved clock is the model's choice (logs 10, 22). -/
def Obligations.PowerOnMeetsInv : Prop :=
  ∀ (p : Params) (h : HostIn) (s : State), powerOn p h = .ok s → Inv s

/-- Every step keeps both memories in canonical form and inside the storage of R67. -/
def Obligations.StepKeepsTheStorage : Prop :=
  ∀ (s t : State), StorageWf s → step s = .next t → StorageWf t

/-- Every step keeps every invariant: F's low bits, the storage, the scheduled enable, the bank registers, the clock's fields
and the counters of the timer, serial link, display and sound. -/
def Obligations.StepKeepsInv : Prop := ∀ (s t : State), Inv s → step s = .next t → Inv t

/-- R82: no step changes the cartridge image, the boot image, the controller type or the bank counts, nor HALT_BUG, and the
boot overlay once gone stays gone. -/
def Obligations.LoadTimeStateKept : Prop :=
  ∀ (s t : State), step s = .next t →
    t.cart.rom = s.cart.rom ∧ t.cart.bootImage = s.cart.bootImage ∧ t.cart.mbcType = s.cart.mbcType
      ∧ t.cart.romBanks = s.cart.romBanks ∧ t.cart.ramBanks = s.cart.ramBanks ∧ t.haltBug = s.haltBug
      ∧ (s.bootOverlay = false → t.bootOverlay = false)

/-- R412: in a step without a dispatch, only an instruction that stores to IF can clear a pending line. -/
def Obligations.PendingLinesStay : Prop :=
  ∀ (s t : State) (i : Instr) (rest : List Byte) (k : Nat),
    s.runState = .running → s.haltBugPending = false → (s.ime = false ∨ pendingLines s = 0#5) →
    decode [memRead s s.regs.pc, memRead s (s.regs.pc + 1#16), memRead s (s.regs.pc + 2#16)] = .ok (i, rest) →
    0xFF0F#16 ∉ storeAddrs s i → step s = .next t → s.iflag.getLsbD k = true → t.iflag.getLsbD k = true

/-- R520, R521, R526: after a step that did not fault, the mode bits are those that LY and the cycle in the line give and the
coincidence bit is LY = LYC; with the display off, LY, the cycle and the mode are 0. -/
def Obligations.DisplayRegistersFollowTheLine : Prop :=
  ∀ (s t : State), step s = .next t → isFaulted t = false →
    (t.lcd.lcdc.getLsbD 7 = true →
      (t.lcd.stat.extractLsb' 0 2 =
        if t.lcd.ly.toNat ≥ 144 then 1#2 else if t.lcd.lineCycles ≤ 80 then 2#2
        else if t.lcd.lineCycles ≤ 252 then 3#2 else 0#2)
      ∧ t.lcd.stat.getLsbD 2 = decide (t.lcd.ly = t.lcd.lyc))
    ∧ (t.lcd.lcdc.getLsbD 7 = false → t.lcd.ly = 0#8 ∧ t.lcd.lineCycles = 0 ∧ t.lcd.stat.extractLsb' 0 2 = 0#2)

/-- R522, R546: a step hands the host a frame exactly when the display enters mode 1 in it, and then the vertical-blank line
is pending. That a step first clears the delivery of the one before is log 7. -/
def Obligations.FrameDeliveredOnVblankEntry : Prop :=
  ∀ (s t : State), step s = .next t → isFaulted t = false →
    ((deliveredFrame t).isSome = true ↔
      (t.lcd.lcdc.getLsbD 7 = true ∧ s.lcd.stat.extractLsb' 0 2 ≠ 1#2 ∧ t.lcd.stat.extractLsb' 0 2 = 1#2))
    ∧ ((deliveredFrame t).isSome = true → t.iflag.getLsbD 0 = true)

/-! ## The bus (20_memory.md) -/

namespace Sys2Proof.Claims

/-- Whether the display owns an address (R112): VRAM in mode 3, OAM in modes 2 and 3, while the display is on. -/
def displayOwns (s : State) (a : Word) : Prop :=
  s.lcd.lcdc.getLsbD 7 = true ∧
    ((0x8000 ≤ a.toNat ∧ a.toNat ≤ 0x9FFF ∧ s.lcd.stat.extractLsb' 0 2 = 3#2)
      ∨ (0xFE00 ≤ a.toNat ∧ a.toNat ≤ 0xFE9F
          ∧ (s.lcd.stat.extractLsb' 0 2 = 2#2 ∨ s.lcd.stat.extractLsb' 0 2 = 3#2)))

/-- The unmapped I/O addresses (R66). -/
def unmappedIo (n : Nat) : Prop :=
  n = 0xFF03 ∨ (0xFF08 ≤ n ∧ n ≤ 0xFF0E) ∨ n = 0xFF15 ∨ n = 0xFF1F ∨ (0xFF27 ≤ n ∧ n ≤ 0xFF2F)
    ∨ (0xFF4C ≤ n ∧ n ≤ 0xFF4F) ∨ (0xFF51 ≤ n ∧ n ≤ 0xFF7F)

/-- P1's four lines for a select value `v` (R33). -/
def linesFor (s : State) (v : Byte) : BitVec 4 :=
  (if v.getLsbD 4 = false then s.host.buttons.now.dirs else 0xF#4)
    &&& (if v.getLsbD 5 = false then s.host.buttons.now.acts else 0xF#4)

/-- `RomByte(bank, off)` (R131). -/
def imageByte (c : Cart) (bank off : Nat) : Byte :=
  if (bank % c.romBanks) * 0x4000 + off < c.rom.len then Memory.read c.rom.cells ((bank % c.romBanks) * 0x4000 + off)
  else 0xFF#8

/-- The state with the bank controller written. -/
def withMbc (s : State) (m : Mbc) : State := { s with mbc := m }

/-- A ROM bank register as a control write stores it: 0 becomes 1 (R132, R140, R145). -/
def nonZero {w : Nat} (v : BitVec w) : BitVec w := if v = 0 then 1 else v

/-- Seconds since day 0 of an MBC3 clock (R147). -/
def clockSeconds (t : Rtc) : Nat :=
  ((((t.dh.toNat % 2) * 256 + t.dl.toNat) * 24 + t.h.toNat) * 60 + t.m.toNat) * 60 + t.s.toNat

/-- A clock that shows a time of day (R147). -/
def clockValid (t : Rtc) : Prop := t.s.toNat < 60 ∧ t.m.toNat < 60 ∧ t.h.toNat < 24

end Sys2Proof.Claims

/-- R110 to R113: an address the display owns reads 0xFF and drops writes; any other RAM address holds what was stored there,
its echo with it, and a store to it changes no other address; the DMA's own reads are not gated. -/
def Obligations.RamAndDisplayGating : Prop :=
  ∀ (s : State) (a : Word) (v : Byte),
    (displayOwns s a → memRead s a = 0xFF#8 ∧ memWrite s a v = s)
    ∧ (¬displayOwns s a → Memory.wf s.mem → ∀ k, ramCell a = some k →
      memRead s a = Memory.read s.mem k
      ∧ ∀ b, memRead (memWrite s a v) b = if ramCell b = some k then v else memRead s b)
    ∧ (((0x8000 ≤ a.toNat ∧ a.toNat ≤ 0x9FFF) ∨ (0xFE00 ≤ a.toNat ∧ a.toNat ≤ 0xFE9F)) →
      rawRead s a = Memory.read s.mem a.toNat)

/-- R66, R114, R120, R123: the unusable region and the unmapped I/O addresses read 0xFF and ignore writes; the boot overlay
covers reads of 0x0000 to 0x00FF only; a write of exactly 1 to 0xFF50 removes it, and 0xFF50 reads 0xFF. -/
def Obligations.PlaceholdersAndOverlay : Prop :=
  ∀ (s : State) (a : Word) (v : Byte),
    ((0xFEA0 ≤ a.toNat ∧ a.toNat ≤ 0xFEFF) ∨ unmappedIo a.toNat → memRead s a = 0xFF#8 ∧ memWrite s a v = s)
    ∧ (s.bootOverlay = true → a.toNat ≤ 0xFF → memRead s a = Memory.read s.cart.bootImage a.toNat)
    ∧ (0x100 ≤ a.toNat → memRead { s with bootOverlay := true } a = memRead { s with bootOverlay := false } a)
    ∧ memRead s 0xFF50#16 = 0xFF#8
    ∧ memWrite s 0xFF50#16 v = { s with bootOverlay := s.bootOverlay && decide (v ≠ 0x01#8) }

/-- R30, R31, R33 to R65: what an I/O register reads right after a write of `v`; the sound registers with the master enable
on, wave RAM always. -/
def Obligations.RegisterReadback : Prop :=
  ∀ (s : State) (v : Byte), Memory.wf s.mem →
    let reads := fun (a : Word) (r : Byte) => memRead (memWrite s a v) a = r
    (reads 0xFF00#16 (0xC0#8 ||| (v &&& 0x30#8) ||| (linesFor s v).zeroExtend 8)
      ∧ reads 0xFF01#16 v ∧ reads 0xFF02#16 (0x7E#8 ||| (v &&& 0x81#8)) ∧ reads 0xFF04#16 0x00#8
      ∧ reads 0xFF05#16 v ∧ reads 0xFF06#16 v ∧ reads 0xFF07#16 (0xF8#8 ||| (v &&& 0x07#8))
      ∧ reads 0xFF0F#16 (0xE0#8 ||| (v &&& 0x1F#8)) ∧ reads 0xFFFF#16 v)
    ∧ (reads 0xFF40#16 v ∧ reads 0xFF41#16 (0x80#8 ||| (v &&& 0x78#8) ||| (s.lcd.stat &&& 0x07#8))
      ∧ reads 0xFF42#16 v ∧ reads 0xFF43#16 v ∧ reads 0xFF44#16 s.lcd.ly ∧ reads 0xFF45#16 v ∧ reads 0xFF46#16 v
      ∧ reads 0xFF47#16 v ∧ reads 0xFF48#16 v ∧ reads 0xFF49#16 v ∧ reads 0xFF4A#16 v ∧ reads 0xFF4B#16 v)
    ∧ (s.sound.master = true →
      (reads 0xFF10#16 (0x80#8 ||| v) ∧ reads 0xFF11#16 (0x3F#8 ||| v) ∧ reads 0xFF12#16 v ∧ reads 0xFF13#16 0xFF#8
        ∧ reads 0xFF14#16 (0xBF#8 ||| v))
      ∧ (reads 0xFF16#16 (0x3F#8 ||| v) ∧ reads 0xFF17#16 v ∧ reads 0xFF18#16 0xFF#8 ∧ reads 0xFF19#16 (0xBF#8 ||| v))
      ∧ (reads 0xFF1A#16 (0x7F#8 ||| v) ∧ reads 0xFF1B#16 0xFF#8 ∧ reads 0xFF1C#16 (0x9F#8 ||| v)
        ∧ reads 0xFF1D#16 0xFF#8 ∧ reads 0xFF1E#16 (0xBF#8 ||| v))
      ∧ (reads 0xFF20#16 0xFF#8 ∧ reads 0xFF21#16 v ∧ reads 0xFF22#16 v ∧ reads 0xFF23#16 (0xBF#8 ||| v)
        ∧ reads 0xFF24#16 v ∧ reads 0xFF25#16 v))
    ∧ (∀ a : Word, 0xFF30 ≤ a.toNat → a.toNat ≤ 0xFF3F → reads a v)

/-- R63, R125: a write of `v` to DMA stores `v` and fills OAM from the 160 addresses from `v00`, read without gating, and
changes no other byte of `mem`. -/
def Obligations.ObjectAttributeDma : Prop :=
  ∀ (s : State) (v : Byte), Memory.wf s.mem →
    let t := memWrite s 0xFF46#16 v
    let s' := { s with lcd := { s.lcd with dma := v } }
    t.lcd = s'.lcd
    ∧ (∀ i, i < 160 → Memory.read t.mem (0xFE00 + i) = rawRead s' (mkWord v 0#8 + BitVec.ofNat 16 i))
    ∧ (∀ n, n < 0xFE00 ∨ 0xFE9F < n → Memory.read t.mem n = Memory.read s.mem n)
    ∧ t = { s' with mem := t.mem, host := { s.host with buttons := t.host.buttons } }

/-! ## Bank controllers (20_memory.md section 6) -/

/-- R130 to R134: MBC1's control writes, ROM banks and RAM; with no controller the first 32 KB are mapped and the rest is
inert. -/
def Obligations.Mbc1AndPlainCartridge : Prop :=
  ∀ (s : State) (a : Word) (v : Byte),
    let n := a.toNat
    let m := s.mbc
    let bare := s.bootOverlay = false ∨ 0x100 ≤ n
    let cell := ((if m.mode = 1#1 then m.bank2.toNat else 0) % s.cart.ramBanks) * 0x2000 + (n - 0xA000)
    (s.cart.mbcType = .mbc1 →
      (n ≤ 0x1FFF → memWrite s a v = withMbc s { m with ramEnable := decide (v &&& 0x0F#8 = 0x0A#8) })
      ∧ (0x2000 ≤ n → n ≤ 0x3FFF → memWrite s a v = withMbc s { m with bank1 := nonZero (v.extractLsb' 0 5) })
      ∧ (0x4000 ≤ n → n ≤ 0x5FFF → memWrite s a v = withMbc s { m with bank2 := v.extractLsb' 0 2 })
      ∧ (0x6000 ≤ n → n ≤ 0x7FFF → memWrite s a v = withMbc s { m with mode := v.extractLsb' 0 1 })
      ∧ (bare → n ≤ 0x3FFF → memRead s a = imageByte s.cart (if m.mode = 1#1 then m.bank2.toNat * 32 else 0) n)
      ∧ (0x4000 ≤ n → n ≤ 0x7FFF →
        memRead s a = imageByte s.cart (m.bank2.toNat * 32 + m.bank1.toNat) (n - 0x4000))
      ∧ (0xA000 ≤ n → n ≤ 0xBFFF →
        (m.ramEnable = true ∧ s.cart.ramBanks ≠ 0 →
          memRead s a = Memory.read s.eram cell ∧ memWrite s a v = { s with eram := Memory.write s.eram cell v })
        ∧ (m.ramEnable = false ∨ s.cart.ramBanks = 0 → memRead s a = 0xFF#8 ∧ memWrite s a v = s)))
    ∧ (s.cart.mbcType = .none →
      (n ≤ 0x7FFF → memWrite s a v = s)
      ∧ (bare → n ≤ 0x7FFF → memRead s a = imageByte s.cart (n / 0x4000) (n % 0x4000))
      ∧ (0xA000 ≤ n → n ≤ 0xBFFF → memRead s a = 0xFF#8 ∧ memWrite s a v = s))

/-- R140: MBC2, its control writes decoded by address bit 8 and its 512 cells of four bits. -/
def Obligations.Mbc2Cartridge : Prop :=
  ∀ (s : State) (a : Word) (v : Byte),
    let n := a.toNat
    let m := s.mbc
    let bare := s.bootOverlay = false ∨ 0x100 ≤ n
    let cell := (n - 0xA000) % 512
    s.cart.mbcType = .mbc2 →
      (n ≤ 0x3FFF → a.getLsbD 8 = false →
        memWrite s a v = withMbc s { m with ramEnable := decide (v &&& 0x0F#8 = 0x0A#8) })
      ∧ (n ≤ 0x3FFF → a.getLsbD 8 = true →
        memWrite s a v = withMbc s { m with romBank := (nonZero (v.extractLsb' 0 4)).zeroExtend 7 })
      ∧ (0x4000 ≤ n → n ≤ 0x7FFF → memWrite s a v = s)
      ∧ (bare → n ≤ 0x3FFF → memRead s a = imageByte s.cart 0 n)
      ∧ (0x4000 ≤ n → n ≤ 0x7FFF → memRead s a = imageByte s.cart m.romBank.toNat (n - 0x4000))
      ∧ (0xA000 ≤ n → n ≤ 0xBFFF →
        (m.ramEnable = true →
          memRead s a = 0xF0#8 ||| Memory.read s.eram cell
          ∧ memWrite s a v = { s with eram := Memory.write s.eram cell (v &&& 0x0F#8) })
        ∧ (m.ramEnable = false → memRead s a = 0xFF#8 ∧ memWrite s a v = s))

/-- R145, R146: MBC3, its control writes, ROM banks, RAM banks, clock registers and latch. -/
def Obligations.Mbc3Cartridge : Prop :=
  ∀ (s : State) (a : Word) (v : Byte),
    let n := a.toNat
    let m := s.mbc
    let bare := s.bootOverlay = false ∨ 0x100 ≤ n
    let cell := (m.ramSel.toNat % s.cart.ramBanks) * 0x2000 + (n - 0xA000)
    let u := rtcUpdate s
    let clock := fun (sel : Byte) (latched : Byte) (live : Rtc) =>
      m.ramSel = sel → memRead s a = latched ∧ memWrite s a v = withMbc u { u.mbc with rtcLive := live }
    s.cart.mbcType = .mbc3 →
      (n ≤ 0x1FFF → memWrite s a v = withMbc s { m with ramEnable := decide (v &&& 0x0F#8 = 0x0A#8) })
      ∧ (0x2000 ≤ n → n ≤ 0x3FFF → memWrite s a v = withMbc s { m with romBank := nonZero (v.extractLsb' 0 7) })
      ∧ (0x4000 ≤ n → n ≤ 0x5FFF → memWrite s a v = withMbc s { m with ramSel := v })
      ∧ (0x6000 ≤ n → n ≤ 0x7FFF →
        memWrite s a v
          = if m.latchPrev = 0x00#8 ∧ v = 0x01#8 then
              withMbc u { u.mbc with rtcLatched := u.mbc.rtcLive, latchPrev := v }
            else withMbc s { m with latchPrev := v })
      ∧ (bare → n ≤ 0x3FFF → memRead s a = imageByte s.cart 0 n)
      ∧ (0x4000 ≤ n → n ≤ 0x7FFF → memRead s a = imageByte s.cart m.romBank.toNat (n - 0x4000))
      ∧ (0xA000 ≤ n → n ≤ 0xBFFF →
        (m.ramEnable = true →
          (m.ramSel.toNat ≤ 3 → s.cart.ramBanks ≠ 0 →
            memRead s a = Memory.read s.eram cell ∧ memWrite s a v = { s with eram := Memory.write s.eram cell v })
          ∧ clock 0x08#8 m.rtcLatched.s { u.mbc.rtcLive with s := v &&& 0x3F#8 }
          ∧ clock 0x09#8 m.rtcLatched.m { u.mbc.rtcLive with m := v &&& 0x3F#8 }
          ∧ clock 0x0A#8 m.rtcLatched.h { u.mbc.rtcLive with h := v &&& 0x1F#8 }
          ∧ clock 0x0B#8 m.rtcLatched.dl { u.mbc.rtcLive with dl := v }
          ∧ clock 0x0C#8 m.rtcLatched.dh { u.mbc.rtcLive with dh := v &&& 0xC1#8 })
        ∧ (m.ramEnable = false ∨ (m.ramSel.toNat ≤ 3 ∧ s.cart.ramBanks = 0)
            ∨ (4 ≤ m.ramSel.toNat ∧ m.ramSel.toNat ≤ 7) ∨ 0x0D ≤ m.ramSel.toNat →
          memRead s a = 0xFF#8 ∧ memWrite s a v = s))

/-- R147, R148: the clock counts seconds, minutes, hours and 512 days, with the day carry; a value past its range wraps without
carry; an update takes the host's time once and, unless halted, applies the seconds since the anchor. -/
def Obligations.ClockCountsSeconds : Prop :=
  (∀ (n : Nat) (t : Rtc), clockValid t →
    clockValid (rtcTicks n t)
    ∧ clockSeconds (rtcTicks n t) = (clockSeconds t + n) % (512 * 86400)
    ∧ (rtcTicks n t).dh.getLsbD 7 = (t.dh.getLsbD 7 || decide (clockSeconds t + n ≥ 512 * 86400))
    ∧ (rtcTicks n t).dh &&& 0x7E#8 = t.dh &&& 0x7E#8)
  ∧ (∀ t : Rtc,
    (t.s ≠ 59#8 → rtcSecondTick t = { t with s := (t.s + 1#8) &&& 0x3F#8 })
    ∧ (t.s = 59#8 → t.m ≠ 59#8 → rtcSecondTick t = { t with s := 0#8, m := (t.m + 1#8) &&& 0x3F#8 })
    ∧ (t.s = 59#8 → t.m = 59#8 → t.h ≠ 23#8 →
      rtcSecondTick t = { t with s := 0#8, m := 0#8, h := (t.h + 1#8) &&& 0x1F#8 }))
  ∧ (∀ s : State,
    rtcUpdate s = withMbc (drawRtcNow s) { s.mbc with
      rtcAnchor := s.host.rtcNow.now
      rtcLive := if s.mbc.rtcLive.dh.getLsbD 6 = true then s.mbc.rtcLive
        else rtcTicks (s.host.rtcNow.now - s.mbc.rtcAnchor) s.mbc.rtcLive })

/-! ## Timer, serial link, input (60_exceptions.md sections 6 to 8) -/

/-- R450, R451: the divider counts every 256 cycles; the counter, only while TAC[2] is 1, takes one tick of its loop per
threshold reached: at 0xFF it reloads from TMA and requests the timer line, else it counts up. -/
def Obligations.TimerCounts : Prop :=
  ∀ (n : Nat) (s : State),
    let t := timerStep n s
    let threshold := [1024, 16, 64, 256].getD (s.timer.tac.toNat % 4) 0
    let acc := s.timer.timaAcc + n
    (s.timer.divAcc < 256 →
      256 * t.timer.div.toNat + t.timer.divAcc = (256 * s.timer.div.toNat + s.timer.divAcc + n) % 65536
      ∧ t.timer.divAcc < 256)
    ∧ (s.timer.tac.getLsbD 2 = false → counterStep n s = s)
    ∧ (s.timer.tac.getLsbD 2 = true → acc < threshold →
      counterStep n s = { s with timer := { s.timer with timaAcc := acc } })
    ∧ (s.timer.tac.getLsbD 2 = true → threshold ≤ acc →
      counterStep n s = counterStep (acc - threshold)
        (if s.timer.tima = 0xFF#8 then
          { s with timer := { s.timer with tima := s.timer.tma, timaAcc := 0 }, iflag := s.iflag ||| 0b00100#5 }
         else { s with timer := { s.timer with tima := s.timer.tima + 1#8, timaAcc := 0 } }))
    ∧ t = counterStep n { s with timer := { s.timer with div := t.timer.div, divAcc := t.timer.divAcc } }

/-- R470 to R472, R474: one serial tick per 512 cycles; an unsolicited byte is exchanged whatever SC
holds; else a transfer with the internal clock counts a bit and at the eighth exchanges SB for the peer's byte, or 0xFF
without a peer. So eight ticks of a fresh transfer exchange the byte once. Two clauses are the model's choice, which R470
does not state (log 16): that a tick takes one answer of the peer, and that an exchange without a peer sends nothing.
`out.serialSent` is the model's field for the bytes sent (log 15). -/
def Obligations.SerialExchange : Prop :=
  (∀ (n : Nat) (s : State),
    (s.serial.acc + n < 512 → serialStep n s = { s with serial := { s.serial with acc := s.serial.acc + n } })
    ∧ (512 ≤ s.serial.acc + n →
      serialStep n s
        = serialStep (s.serial.acc + n - 512) (serialTick { s with serial := { s.serial with acc := 0 } })))
  ∧ (∀ (s : State),
    let t := serialTick s
    let d := drawSerialPeer s
    let moving := s.serial.sc.getLsbD 7 = true ∧ s.serial.sc.getLsbD 0 = true
    let exchanged := fun (b : Byte) (bits : Nat) (sent : List Byte) =>
      { d with
        serial := { s.serial with sb := b, sc := s.serial.sc &&& 0x7F#8, bitCount := bits }
        iflag := s.iflag ||| 0b01000#5
        out := { s.out with serialSent := s.out.serialSent ++ sent } }
    (∀ b r, s.host.serialPeer.now = .connected (some b) r → t = exchanged b s.serial.bitCount [s.serial.sb])
    ∧ ((∀ b r, s.host.serialPeer.now ≠ .connected (some b) r) →
      (¬moving → t = d)
      ∧ (moving → s.serial.bitCount + 1 ≠ 8 →
        t = { d with serial := { s.serial with bitCount := s.serial.bitCount + 1 } })
      ∧ (moving → s.serial.bitCount + 1 = 8 →
        (∀ r, s.host.serialPeer.now = .connected none r → t = exchanged r 0 [s.serial.sb])
        ∧ (s.host.serialPeer.now = .disconnected → t = exchanged 0xFF#8 0 []))))
  ∧ (∀ (s : State) (r : Byte), s.host.serialPeer = ⟨.connected none r, []⟩ →
    let x := memWrite s 0xFF02#16 0x81#8
    let t := serialTicks 8 x
    (∀ k, k < 8 → (serialTicks k x).serial.sb = s.serial.sb ∧ (serialTicks k x).serial.sc = 0x81#8
      ∧ (serialTicks k x).iflag = s.iflag)
    ∧ t.serial.sb = r ∧ t.serial.sc = 0x01#8 ∧ t.iflag = s.iflag ||| 0b01000#5
    ∧ t.out.serialSent = s.out.serialSent ++ [s.serial.sb])

/-- R480, R481: the input lines are sampled as P1 reads them at that point, one BUTTONS answer is taken, and a line that
goes from 1 to 0 requests the input line. -/
def Obligations.InputSampling : Prop :=
  ∀ (s : State),
    let lines := (memRead s 0xFF00#16).extractLsb' 0 4
    sampleInput s = { drawButtons s with
      joyPrev := lines
      iflag := if s.joyPrev &&& ~~~lines = 0#4 then s.iflag else s.iflag ||| 0b10000#5 }

/-! ## Display (60_exceptions.md section 9) -/

namespace Sys2Proof.Claims

/-- The 2-bit code at column `col` of the tile row whose two bytes are at `base` (R533): bit 7 is column 0. -/
def rowCode (mem : Memory) (base col : Nat) : Nat :=
  2 * ((Memory.read mem (base + 1)).toNat / 2 ^ (7 - col) % 2) + (Memory.read mem base).toNat / 2 ^ (7 - col) % 2

/-- The base of a background or window tile (R533). -/
def tileAt (d : Lcd) (idx : Byte) : Nat :=
  if d.lcdc.getLsbD 4 = true then 0x8000 + idx.toNat * 16
  else if idx.toNat < 128 then 0x9000 + idx.toNat * 16 else 0x9000 + idx.toNat * 16 - 0x1000

/-- The code at pixel `(px, py)` of a tile map (R531, R532). -/
def mapCode (mem : Memory) (d : Lcd) (map px py : Nat) : Nat :=
  rowCode mem (tileAt d (Memory.read mem (map + py / 8 * 32 + px / 8)) + 2 * (py % 8)) (px % 8)

/-- The background and window's code at column `x` of line `y` (R531, R532, R534). -/
def layer (mem : Memory) (d : Lcd) (y x : Nat) : Nat :=
  if d.lcdc.getLsbD 0 = false then 0
  else if d.lcdc.getLsbD 5 = true ∧ d.wy.toNat ≤ y ∧ d.wx.toNat ≤ x + 7 then
    mapCode mem d (if d.lcdc.getLsbD 6 = true then 0x9C00 else 0x9800) (x + 7 - d.wx.toNat) (y - d.wy.toNat)
  else
    mapCode mem d (if d.lcdc.getLsbD 3 = true then 0x9C00 else 0x9800) ((d.scx.toNat + x) % 256)
      ((d.scy.toNat + y) % 256)

/-- The shade a palette register gives a code (R64). -/
def shadeOf (pal : Byte) (code : Nat) : Nat := pal.toNat / 4 ^ code % 4

/-- The shade of the background and window alone (R534). -/
def layerShadeAt (mem : Memory) (d : Lcd) (y x : Nat) : Nat :=
  if d.lcdc.getLsbD 0 = false then 0 else shadeOf d.bgp (layer mem d y x)

/-- Byte `j` of object `i` (R535): 0 is Y, 1 is X, 2 the tile, 3 the attributes. -/
def objByte (mem : Memory) (i j : Nat) : Byte := Memory.read mem (0xFE00 + 4 * i + j)

/-- The object height (R535). -/
def tall (d : Lcd) : Nat := if d.lcdc.getLsbD 2 = true then 16 else 8

/-- The objects of line `y` by number (R535): the first ten whose span meets it, none while LCDC[1] is 0. -/
def lineObjects (mem : Memory) (d : Lcd) (y : Nat) : List Nat :=
  if d.lcdc.getLsbD 1 = true then
    ((List.range 40).filter fun i =>
      decide ((objByte mem i 0).toNat ≤ y + 16 ∧ y + 16 < (objByte mem i 0).toNat + tall d)).take 10
  else []

/-- The code object `i` shows at column `x` of line `y` (R536), 0 where it does not cover it. -/
def objCode (mem : Memory) (d : Lcd) (y x i : Nat) : Nat :=
  let yy := (objByte mem i 0).toNat
  let xx := (objByte mem i 1).toNat
  let attr := objByte mem i 3
  let row := if attr.getLsbD 6 = true then tall d - 1 - (y + 16 - yy) else y + 16 - yy
  let tile := if tall d = 16 then (objByte mem i 2).toNat / 2 * 2 else (objByte mem i 2).toNat
  let col := if attr.getLsbD 5 = true then 7 - (x + 8 - xx) else x + 8 - xx
  if xx ≤ x + 8 ∧ x + 8 < xx + 8 then rowCode mem (0x8000 + tile * 16 + 2 * row) col else 0

/-- Object `i` wins column `x` (R537): it shows a pixel there, and every other object of the line that does has a larger
X, or the same X and a larger number. -/
def wins (mem : Memory) (d : Lcd) (y x i : Nat) : Prop :=
  i ∈ lineObjects mem d y ∧ objCode mem d y x i ≠ 0 ∧
    ∀ j ∈ lineObjects mem d y, objCode mem d y x j ≠ 0 → j ≠ i →
      (objByte mem i 1).toNat < (objByte mem j 1).toNat ∨ ((objByte mem i 1).toNat = (objByte mem j 1).toNat ∧ i < j)

end Sys2Proof.Claims

/-- R530 to R538: the line rasterized at the entry of mode 0. Where no object shows a pixel, the column has the shade of the
background or window (R531 to R534); where one does, exactly one object wins the column by lowest X and then lowest number
(R535 to R537), and its shade shows unless it is behind a background code that is not 0. Other rows stay. -/
def Obligations.RasterizedLine : Prop :=
  ∀ (s : State), s.lcd.ly.toNat < 144 → DisplayWf s →
    let y := s.lcd.ly.toNat
    let d := s.lcd
    let t := enterMode 0#2 s
    let row := t.lcd.frameBuffer.getD y []
    row.length = 160
    ∧ (∀ r, r ≠ y → t.lcd.frameBuffer.getD r [] = d.frameBuffer.getD r [])
    ∧ ∀ x, x < 160 →
      (t.lcd.bgCode.getD x 0).toNat = layer s.mem d y x
      ∧ ((∀ i ∈ lineObjects s.mem d y, objCode s.mem d y x i = 0) →
        (row.getD x 0).toNat = layerShadeAt s.mem d y x)
      ∧ ((∃ i ∈ lineObjects s.mem d y, objCode s.mem d y x i ≠ 0) → ∃ i, wins s.mem d y x i)
      ∧ (∀ i, wins s.mem d y x i →
        (row.getD x 0).toNat
          = if (objByte s.mem i 3).getLsbD 7 = true ∧ layer s.mem d y x ≠ 0 then layerShadeAt s.mem d y x
            else shadeOf (if (objByte s.mem i 3).getLsbD 4 = true then d.obp1 else d.obp0) (objCode s.mem d y x i))

/-- R521 to R523, R525 to R527: a line is 456 cycles and a frame 154 lines, 70224 cycles; each mode entry and the rising edge
of LY = LYC request the display-status line under their own enable bit, and the entry of mode 1 requests vertical blank. -/
def Obligations.DisplayTimingAndRequests : Prop :=
  ∀ (s : State) (n : Nat), s.lcd.lcdc.getLsbD 7 = true → DisplayWf s → n ≤ 24 →
    let t := displayStep n s
    let old := s.lcd.stat.extractLsb' 0 2
    let new := t.lcd.stat.extractLsb' 0 2
    let entered := fun (m : BitVec 2) => old ≠ m ∧ new = m
    let enabled := fun (b : Nat) => s.lcd.stat.getLsbD b = true
    (456 * t.lcd.ly.toNat + t.lcd.lineCycles = (456 * s.lcd.ly.toNat + s.lcd.lineCycles + n) % 70224)
    ∧ t.lcd.lineCycles < 456
    ∧ (t.iflag.getLsbD 0 = true ↔ s.iflag.getLsbD 0 = true ∨ entered 1#2)
    ∧ (t.iflag.getLsbD 1 = true ↔ s.iflag.getLsbD 1 = true ∨ (entered 0#2 ∧ enabled 3) ∨ (entered 1#2 ∧ enabled 4)
        ∨ (entered 2#2 ∧ enabled 5) ∨ (t.lcd.ly = t.lcd.lyc ∧ s.lcd.prevCoinc = false ∧ enabled 6))
    ∧ t.lcd.prevCoinc = decide (t.lcd.ly = s.lcd.lyc)
    ∧ (entered 1#2 → t.lcd.paletteActive = s.lcd.swapPending.getD s.lcd.paletteActive ∧ t.lcd.swapPending = none)
    ∧ (¬entered 1#2 → t.lcd.paletteActive = s.lcd.paletteActive ∧ t.lcd.swapPending = s.lcd.swapPending)

/-! ## Sound (60_exceptions.md section 10) -/

/-- R56, R116, R563: with the master enable off, a write to 0xFF10 to 0xFF25 is dropped; a write of NR52 that turns it off
clears every register and disables every channel but keeps the length counters and wave RAM; one that turns it on restarts
the frame sequencer; any other changes nothing. -/
def Obligations.SoundMasterEnable : Prop :=
  ∀ (s : State) (a : Word) (v : Byte),
    let t := memWrite s 0xFF26#16 v
    let d := t.sound
    let n := fun (x : Nat) => memRead t (BitVec.ofNat 16 x)
    (s.sound.master = false → 0xFF10 ≤ a.toNat → a.toNat ≤ 0xFF25 → memWrite s a v = s)
    ∧ t = { s with sound := d }
    ∧ (s.sound.master = true → v.getLsbD 7 = false →
      d.master = false ∧ d.ch1.core.en = false ∧ d.ch2.core.en = false ∧ d.ch3.core.en = false ∧ d.ch4.core.en = false
      ∧ (n 0xFF10 = 0x80#8 ∧ n 0xFF11 = 0x3F#8 ∧ n 0xFF12 = 0#8 ∧ n 0xFF14 = 0xBF#8 ∧ n 0xFF16 = 0x3F#8 ∧ n 0xFF17 = 0#8
        ∧ n 0xFF19 = 0xBF#8 ∧ n 0xFF1A = 0x7F#8 ∧ n 0xFF1C = 0x9F#8 ∧ n 0xFF1E = 0xBF#8)
      ∧ (n 0xFF21 = 0#8 ∧ n 0xFF22 = 0#8 ∧ n 0xFF23 = 0xBF#8 ∧ n 0xFF24 = 0#8 ∧ n 0xFF25 = 0#8 ∧ n 0xFF26 = 0x70#8)
      ∧ (d.ch1.nrx3 = 0#8 ∧ d.ch2.nrx3 = 0#8 ∧ d.ch3.nr31 = 0#8 ∧ d.ch3.nr33 = 0#8 ∧ d.ch4.nr41 = 0#8
        ∧ d.ch1.nrx1 = 0#8 ∧ d.ch2.nrx1 = 0#8 ∧ d.ch1.nrx4 = 0#8 ∧ d.ch2.nrx4 = 0#8 ∧ d.ch3.nr34 = 0#8)
      ∧ (d.ch1.core.length = s.sound.ch1.core.length ∧ d.ch2.core.length = s.sound.ch2.core.length
        ∧ d.ch3.core.length = s.sound.ch3.core.length ∧ d.ch4.core.length = s.sound.ch4.core.length))
    ∧ (s.sound.master = false → v.getLsbD 7 = true →
      d = { s.sound with master := true, fsAcc := 0, fsPhase := 0 })
    ∧ (s.sound.master = v.getLsbD 7 → d = s.sound)

/-- R44, R45, R49, R53, R560, R562, R565, R569: a write to NRx4 with bit 7 set triggers the channel if its DAC is on, with the
bits just written; else it only stores. -/
def Obligations.SoundTrigger : Prop :=
  ∀ (s : State) (v : Byte), s.sound.master = true →
    let d := s.sound
    let t1 := (memWrite s 0xFF14#16 v).sound
    let t2 := (memWrite s 0xFF19#16 v).sound
    let t3 := (memWrite s 0xFF1E#16 v).sound
    let t4 := (memWrite s 0xFF23#16 v).sound
    let freq := fun (lo : Byte) => (v.toNat % 8) * 256 + lo.toNat
    let reload := fun (len full : Nat) => if len = 0 then full else len
    let period := (d.sweep.nr10.toNat / 16) % 8
    let shift := d.sweep.nr10.toNat % 8
    let f1 := freq d.ch1.nrx3
    let overflows := d.sweep.nr10.getLsbD 3 = false ∧ f1 + f1 / 2 ^ shift > 2047
    (v.getLsbD 7 = true → d.ch1.nrx2.toNat ≥ 8 →
      t1.ch1.core = ⟨decide (¬(shift ≠ 0 ∧ overflows)), (2048 - (f1 : Int)) * 4, reload d.ch1.core.length 64⟩
      ∧ t1.ch1.env = ⟨d.ch1.nrx2.toNat / 16, d.ch1.nrx2.toNat % 8⟩ ∧ t1.ch1.dutyPos = d.ch1.dutyPos
      ∧ t1.sweep = { d.sweep with
          shadow := f1, timer := if period = 0 then 8 else period, en := decide (period ≠ 0 ∨ shift ≠ 0) })
    ∧ (v.getLsbD 7 = true → d.ch2.nrx2.toNat ≥ 8 →
      t2.ch2.core = ⟨true, (2048 - (freq d.ch2.nrx3 : Int)) * 4, reload d.ch2.core.length 64⟩
      ∧ t2.ch2.env = ⟨d.ch2.nrx2.toNat / 16, d.ch2.nrx2.toNat % 8⟩ ∧ t2.ch2.dutyPos = d.ch2.dutyPos)
    ∧ (v.getLsbD 7 = true → d.ch3.nr30.getLsbD 7 = true →
      t3.ch3.core = ⟨true, (2048 - (freq d.ch3.nr33 : Int)) * 2, reload d.ch3.core.length 256⟩ ∧ t3.ch3.wavePos = 0)
    ∧ (v.getLsbD 7 = true → d.ch4.nr42.toNat ≥ 8 →
      t4.ch4.core = ⟨true, noisePeriod d.ch4, reload d.ch4.core.length 64⟩
      ∧ t4.ch4.env = ⟨d.ch4.nr42.toNat / 16, d.ch4.nr42.toNat % 8⟩ ∧ t4.ch4.lfsr = 0x7FFF#15)
    ∧ ((v.getLsbD 7 = false ∨ d.ch1.nrx2.toNat < 8) → t1 = { d with ch1 := { d.ch1 with nrx4 := t1.ch1.nrx4 } })
    ∧ ((v.getLsbD 7 = false ∨ d.ch2.nrx2.toNat < 8) → t2 = { d with ch2 := { d.ch2 with nrx4 := t2.ch2.nrx4 } })
    ∧ ((v.getLsbD 7 = false ∨ d.ch3.nr30.getLsbD 7 = false) → t3 = { d with ch3 := { d.ch3 with nr34 := t3.ch3.nr34 } })
    ∧ ((v.getLsbD 7 = false ∨ d.ch4.nr42.toNat < 8) → t4 = { d with ch4 := { d.ch4 with nr44 := t4.ch4.nr44 } })
    ∧ (t1.ch1.nrx4.toNat % 8 = v.toNat % 8 ∧ t1.ch1.nrx4.getLsbD 6 = v.getLsbD 6)

/-- R566 to R570: the frame sequencer clocks the lengths on even phases, the sweep on phases 2 and 6, the envelopes on phase 7.
R571 to R573: an enabled channel that starts a period moves its output by one place at the end of the period and not before. How the
one-line conditionals of R567, R568 and R570 nest is the model's reading (log 20): a length that is 0 disables nothing, an
envelope or sweep timer that is 0 counts as reached. -/
def Obligations.SoundClocks : Prop :=
  (∀ (d : Sound) (p : Nat), p < 8 →
    let t := frameSequencer d p
    let counted := fun (c : ChannelCore) (nrx4 : Byte) =>
      if p % 2 = 0 ∧ nrx4.getLsbD 6 = true ∧ 0 < c.length then
        (⟨c.en && decide (c.length ≠ 1), c.freqTimer, c.length - 1⟩ : ChannelCore) else c
    let stepped := fun (e : Envelope) (en : Bool) (r : Byte) =>
      if p = 7 ∧ en = true ∧ r.toNat % 8 ≠ 0 then
        if 1 < e.timer then (⟨e.volume, e.timer - 1⟩ : Envelope)
        else ⟨if r.getLsbD 3 = true then (if e.volume < 15 then e.volume + 1 else e.volume) else e.volume - 1, r.toNat % 8⟩
      else e
    let shift := d.sweep.nr10.toNat % 8
    let period := (d.sweep.nr10.toNat / 16) % 8
    let moved := d.sweep.shadow / 2 ^ shift
    let new := if d.sweep.nr10.getLsbD 3 = true then d.sweep.shadow - moved else d.sweep.shadow + moved
    let q := { d.ch1 with core := counted d.ch1.core d.ch1.nrx4, env := stepped d.ch1.env d.ch1.core.en d.ch1.nrx2 }
    let reloaded := { d.sweep with timer := if period = 0 then 8 else period }
    (t.ch2 = { d.ch2 with core := counted d.ch2.core d.ch2.nrx4, env := stepped d.ch2.env d.ch2.core.en d.ch2.nrx2 }
      ∧ t.ch3 = { d.ch3 with core := counted d.ch3.core d.ch3.nr34 }
      ∧ t.ch4 = { d.ch4 with core := counted d.ch4.core d.ch4.nr44, env := stepped d.ch4.env d.ch4.core.en d.ch4.nr42 })
    ∧ ((p ≠ 2 ∧ p ≠ 6) ∨ q.core.en = false → t.sweep = d.sweep ∧ t.ch1 = q)
    ∧ (p = 2 ∨ p = 6 → q.core.en = true →
      (1 < d.sweep.timer → t.sweep = { d.sweep with timer := d.sweep.timer - 1 } ∧ t.ch1 = q)
      ∧ (d.sweep.timer ≤ 1 → d.sweep.en = false ∨ period = 0 → t.sweep = reloaded ∧ t.ch1 = q)
      ∧ (d.sweep.timer ≤ 1 → d.sweep.en = true → period ≠ 0 →
        (2047 < new → t.sweep = reloaded ∧ t.ch1 = { q with core := { q.core with en := false } })
        ∧ (new ≤ 2047 → shift = 0 → t.sweep = reloaded ∧ t.ch1 = q)
        ∧ (new ≤ 2047 → shift ≠ 0 →
          t.sweep = { reloaded with shadow := new }
          ∧ t.ch1 = { q with
              core := { q.core with en := decide (d.sweep.nr10.getLsbD 3 = true ∨ new + new / 2 ^ shift ≤ 2047) }
              nrx3 := t.ch1.nrx3, nrx4 := t.ch1.nrx4 }
          ∧ t.ch1.nrx3.toNat + 256 * (t.ch1.nrx4.toNat % 8) = new ∧ t.ch1.nrx4.toNat / 8 = d.ch1.nrx4.toNat / 8)))
    ∧ t = { d with ch1 := t.ch1, ch2 := t.ch2, ch3 := t.ch3, ch4 := t.ch4, sweep := t.sweep })
  ∧ (∀ (q : Square) (n : Nat), q.core.en = true → q.core.freqTimer = squarePeriod q →
    let period : Nat := 4 * (2048 - ((q.nrx4.toNat % 8) * 256 + q.nrx3.toNat))
    squarePeriod q = period
    ∧ (n < period → (tickSquare^[n] q) = { q with core := { q.core with freqTimer := (period : Int) - n } })
    ∧ (tickSquare^[period] q) = { q with dutyPos := (q.dutyPos + 1) % 8 })
  ∧ (∀ (w : Wave) (n : Nat), w.core.en = true → w.core.freqTimer = wavePeriod w →
    let period : Nat := 2 * (2048 - ((w.nr34.toNat % 8) * 256 + w.nr33.toNat))
    wavePeriod w = period
    ∧ (n < period → (tickWave^[n] w) = { w with core := { w.core with freqTimer := (period : Int) - n } })
    ∧ (tickWave^[period] w) = { w with wavePos := (w.wavePos + 1) % 32 })
  ∧ (∀ (c : Noise) (n : Nat), c.core.en = true → c.core.freqTimer = noisePeriod c →
    let code := c.nr43.toNat % 8
    let period : Nat := (if code = 0 then 8 else 16 * code) * 2 ^ (c.nr43.toNat / 16)
    let x := c.lfsr.getLsbD 0 ^^ c.lfsr.getLsbD 1
    noisePeriod c = period
    ∧ (n < period → (tickNoise^[n] c) = { c with core := { c.core with freqTimer := (period : Int) - n } })
    ∧ (tickNoise^[period] c) = { c with lfsr := (tickNoise^[period] c).lfsr }
    ∧ (∀ b, b < 15 → (tickNoise^[period] c).lfsr.getLsbD b
        = if b = 14 ∨ (b = 6 ∧ c.nr43.getLsbD 3 = true) then x else c.lfsr.getLsbD (b + 1)))

/-- R561, R575, R576: 44100 sample pairs in every 4194304 cycles, spread evenly, each side between 0 and 1 (480 of 480, log 13), and
silence while the master enable is off. -/
def Obligations.SampleRateAndRange : Prop :=
  ∀ (mem : Memory) (n : Nat) (d : Sound), SoundWf d →
    let r := soundTicks mem n d
    r.2.length = (d.sampleAcc + 44100 * n) / 4194304
    ∧ r.1.sampleAcc = (d.sampleAcc + 44100 * n) % 4194304
    ∧ (∀ p ∈ r.2, p.left480 ≤ 480 ∧ p.right480 ≤ 480)
    ∧ (d.master = false → (∀ p ∈ r.2, p = ⟨0, 0⟩) ∧ r.1 = { d with sampleAcc := r.1.sampleAcc })

/-! ## Loading and power-on (70_reset_and_hazards.md) -/

/-- R604 to R606: the cartridge checks in their order; an accepted image has a matching checksum, one of the three controllers
or none, 2 to 512 ROM banks and 0, 1 or 4 RAM banks. -/
def Obligations.CartridgeChecks : Prop :=
  (∀ (boot : Memory), loadCartridge none boot = .error .imageUnreadable)
  ∧ (∀ (r : Image) (boot : Memory), r.len < 0x150 → loadCartridge (some r) boot = .error .imageUnreadable)
  ∧ (∀ (r : Image) (boot : Memory), 0x150 ≤ r.len →
    let byte := fun (a : Nat) => Memory.read r.cells a
    let sum := (List.range 25).foldl (fun acc i => acc + (byte (0x134 + i)).toNat + 1) 0
    let checksum : Byte := BitVec.ofInt 8 (-(sum : Int))
    let known := (byte 0x147).toNat ∈ [0x00, 0x01, 0x02, 0x03, 0x05, 0x06, 0x0F, 0x10, 0x11, 0x12, 0x13]
    (byte 0x14D ≠ checksum → loadCartridge (some r) boot = .error (.badChecksum (byte 0x14D) checksum))
    ∧ (byte 0x14D = checksum →
      (¬known → loadCartridge (some r) boot = .error (.unsupportedController (byte 0x147)))
      ∧ (known → byte 0x143 = 0xC0#8 → loadCartridge (some r) boot = .error .colorOnly)
      ∧ (known → byte 0x143 ≠ 0xC0#8 → 3 < (byte 0x149).toNat →
        loadCartridge (some r) boot = .error (.unsupportedRamSize (byte 0x149)))
      ∧ (known → byte 0x143 ≠ 0xC0#8 → (byte 0x149).toNat ≤ 3 → 8 < (byte 0x148).toNat →
        loadCartridge (some r) boot = .error (.unsupportedRomSize (byte 0x148)))
      ∧ (known → byte 0x143 ≠ 0xC0#8 → (byte 0x149).toNat ≤ 3 → (byte 0x148).toNat ≤ 8 →
        ∃ c, loadCartridge (some r) boot = .ok c ∧ c.rom = r ∧ c.bootImage = boot
          ∧ c.romBanks = 2 * 2 ^ (byte 0x148).toNat
          ∧ c.ramBanks = [0, 1, 1, 4].getD (byte 0x149).toNat 0
          ∧ c.mbcType
            = (if (byte 0x147).toNat = 0 then .none else if (byte 0x147).toNat ≤ 3 then .mbc1
               else if (byte 0x147).toNat ≤ 6 then .mbc2 else .mbc3))))

/-- R10, R80, R81, R600 to R602: what power-on leaves, for every accepted cartridge: the values the spec gives, in both boot
modes; POWER_ON_FILL gives the registers under BootRom. That a saved clock loses the bits outside the fields of R147 is the
model's choice (log 22). -/
def Obligations.PowerOnState : Prop :=
  ∀ (p : Params) (h : HostIn) (s : State), powerOn p h = .ok s →
    (s.ime = false ∧ s.eiDelay = 0 ∧ s.runState = .running ∧ s.haltBugPending = false ∧ s.ie = 0#8 ∧ s.p1Sel = 0#2
      ∧ s.joyPrev = 0xF#4 ∧ s.haltBug = p.haltBug)
    ∧ (s.timer.tima = 0#8 ∧ s.timer.tma = 0#8 ∧ s.timer.tac = 0#3 ∧ s.timer.divAcc = 0 ∧ s.timer.timaAcc = 0)
    ∧ s.serial = ⟨0#8, 0#8, 0, 0⟩
    ∧ (s.lcd.scy = 0#8 ∧ s.lcd.scx = 0#8 ∧ s.lcd.ly = 0#8 ∧ s.lcd.lyc = 0#8 ∧ s.lcd.wy = 0#8 ∧ s.lcd.wx = 0#8
      ∧ s.lcd.lineCycles = 0 ∧ s.lcd.frameReady = false ∧ s.lcd.paletteActive = p.palette ∧ s.lcd.swapPending = none)
    ∧ (s.mbc.ramEnable = false ∧ s.mbc.bank1 = 1#5 ∧ s.mbc.bank2 = 0#2 ∧ s.mbc.mode = 0#1 ∧ s.mbc.romBank = 1#7
      ∧ s.mbc.ramSel = 0#8 ∧ s.mbc.latchPrev = 0xFF#8 ∧ (p.saveClock = none → s.mbc.rtcLive = ⟨0#8, 0#8, 0#8, 0#8, 0#8⟩)
      ∧ (∀ c, p.saveClock = some c → s.mbc.rtcLive
        = ⟨c.regs.s &&& 0x3F#8, c.regs.m &&& 0x3F#8, c.regs.h &&& 0x1F#8, c.regs.dl, c.regs.dh &&& 0xC1#8⟩)
      ∧ s.mbc.rtcLatched = s.mbc.rtcLive ∧ s.mbc.rtcAnchor = h.rtcNow.now)
    ∧ (∀ n, 0xFF30 ≤ n → n ≤ 0xFF3F → Memory.read s.mem n = 0#8)
    ∧ (∀ image, p.bootMode = .bootRom image →
      s.regs.pc = 0x0000#16 ∧ s.bootOverlay = true ∧ s.cart.bootImage = image
      ∧ s.regs.a = p.fill.a ∧ s.regs.b = p.fill.b ∧ s.regs.h = p.fill.h ∧ s.regs.sp = p.fill.sp
      ∧ s.iflag = 0#5 ∧ s.timer.div = 0#8 ∧ s.lcd.lcdc = 0#8 ∧ s.lcd.stat = 0#8 ∧ s.lcd.prevCoinc = false
      ∧ s.lcd.dma = 0#8 ∧ s.lcd.bgp = 0#8 ∧ s.lcd.obp0 = 0#8 ∧ s.lcd.obp1 = 0#8 ∧ s.sound = Sound.zero
      ∧ memRead s 0xFF0F#16 = 0xE0#8 ∧ memRead s 0xFF41#16 = 0x80#8 ∧ memRead s 0xFF26#16 = 0x70#8)
    ∧ (p.bootMode = .skipBoot →
      s.regs = { a := 0x01#8, f := 0xB0#8, b := 0x00#8, c := 0x13#8, d := 0x00#8, e := 0xD8#8, h := 0x01#8, l := 0x4D#8
                 sp := 0xFFFE#16, pc := 0x0100#16 }
      ∧ s.bootOverlay = false ∧ s.iflag = 1#5 ∧ s.timer.div = 0xAB#8 ∧ s.lcd.lcdc = 0x91#8 ∧ s.lcd.stat = 0x85#8
      ∧ s.lcd.prevCoinc = true ∧ s.lcd.dma = 0xFF#8 ∧ s.lcd.bgp = 0xFC#8 ∧ s.lcd.obp0 = 0xFF#8 ∧ s.lcd.obp1 = 0xFF#8
      ∧ memRead s 0xFF0F#16 = 0xE1#8 ∧ memRead s 0xFF26#16 = 0xF1#8 ∧ memRead s 0xFF11#16 = 0xBF#8
      ∧ memRead s 0xFF12#16 = 0xF3#8 ∧ memRead s 0xFF14#16 = 0xBF#8 ∧ memRead s 0xFF24#16 = 0x77#8
      ∧ memRead s 0xFF25#16 = 0xF3#8 ∧ s.sound.ch1.nrx3 = 0xC1#8 ∧ s.sound.ch1.env.volume = 0)
end

