-- ==== Sys2Proof/Laws/Memory.lean ====
section
/-! SUPPORT. The laws of `Memory`: read after write, the canonical form, equality from equal reads. -/

namespace Sys2Proof

/-- Every listed address of `m` is above `a`. -/
def Memory.Above (a : Nat) (m : Memory) : Prop := ∀ x ∈ m, a < x.1

theorem Memory.wf_nil : Memory.wf [] := ⟨List.Pairwise.nil, by simp⟩

theorem Memory.wf_cons {k : Nat} {w : Byte} {m : Memory} :
    Memory.wf ((k, w) :: m) ↔ Memory.Above k m ∧ w ≠ unlistedByte ∧ Memory.wf m := by
  simp only [Memory.wf, Memory.Above, List.pairwise_cons, List.forall_mem_cons]
  tauto

/-- An address below every listed one reads as unlisted. -/
theorem Memory.read_of_above {a : Nat} : {m : Memory} → Memory.Above a m → Memory.read m a = unlistedByte
  | [], _ => rfl
  | (k, w) :: m, h => by
    have hk : a < k := h (k, w) (by simp)
    rw [Memory.read, if_neg (by omega)]
    exact read_of_above (fun x hx => h x (by simp [hx]))

/-- The cells of a written memory are the old ones and the new one. -/
theorem Memory.mem_write {m : Memory} {a : Nat} {v : Byte} {x : Host.Cell} (h : x ∈ Memory.write m a v) :
    x ∈ m ∨ x = (a, v) := by
  induction m with
  | nil => simp only [Memory.write] at h; split at h <;> simp_all
  | cons c m ih =>
    obtain ⟨k, w⟩ := c
    simp only [Memory.write] at h
    split at h
    · split at h <;> simp_all; tauto
    · split at h
      · split at h <;> simp_all; tauto
      · rcases List.mem_cons.mp h with h | h
        · simp [h]
        · rcases ih h with h | h <;> simp [h]

/-- A write keeps every listed address above a bound that the written address is above. -/
theorem Memory.above_write {b a : Nat} {m : Memory} {v : Byte} (hm : Memory.Above b m) (hb : b < a) :
    Memory.Above b (Memory.write m a v) := by
  intro x hx
  rcases Memory.mem_write hx with h | rfl
  · exact hm x h
  · exact hb

/-- A write keeps the canonical form. -/
theorem Memory.write_wf {m : Memory} (hm : Memory.wf m) (a : Nat) (v : Byte) : Memory.wf (Memory.write m a v) := by
  induction m with
  | nil =>
    simp only [Memory.write]
    split
    · exact Memory.wf_nil
    · exact Memory.wf_cons.mpr ⟨by simp [Memory.Above], ‹_›, Memory.wf_nil⟩
  | cons c m ih =>
    obtain ⟨k, w⟩ := c
    obtain ⟨hk, hw, ht⟩ := Memory.wf_cons.mp hm
    simp only [Memory.write]
    split
    · split
      · exact hm
      · refine Memory.wf_cons.mpr ⟨?_, ‹_›, hm⟩
        intro x hx
        rcases List.mem_cons.mp hx with rfl | hx
        · assumption
        · exact Nat.lt_trans ‹_› (hk x hx)
    · split
      · split
        · exact ht
        · exact Memory.wf_cons.mpr ⟨hk, ‹_›, ht⟩
      · exact Memory.wf_cons.mpr ⟨Memory.above_write hk (by omega), hw, ih ht⟩

/-- A read of the written address gives the value written. -/
@[simp] theorem Memory.read_write_same {m : Memory} (hm : Memory.wf m) (a : Nat) (v : Byte) :
    Memory.read (Memory.write m a v) a = v := by
  induction m with
  | nil => simp only [Memory.write]; split <;> simp_all [Memory.read]
  | cons c m ih =>
    obtain ⟨k, w⟩ := c
    obtain ⟨hk, hw, ht⟩ := Memory.wf_cons.mp hm
    simp only [Memory.write]
    split
    · split
      · rw [Memory.read_of_above (a := a), ‹v = unlistedByte›]
        intro x hx
        rcases List.mem_cons.mp hx with rfl | hx
        · assumption
        · exact Nat.lt_trans ‹_› (hk x hx)
      · simp [Memory.read]
    · split
      · subst a
        split
        · rw [Memory.read_of_above hk, ‹v = unlistedByte›]
        · simp [Memory.read]
      · rw [Memory.read, if_neg (by omega)]; exact ih ht

/-- A read of another address gives what it gave before. -/
theorem Memory.read_write_other {m : Memory} (hm : Memory.wf m) {a b : Nat} (v : Byte) (h : b ≠ a) :
    Memory.read (Memory.write m a v) b = Memory.read m b := by
  induction m with
  | nil => simp only [Memory.write]; split <;> simp [Memory.read, Ne.symm h]
  | cons c m ih =>
    obtain ⟨k, w⟩ := c
    obtain ⟨hk, hw, ht⟩ := Memory.wf_cons.mp hm
    simp only [Memory.write]
    split
    · split
      · rfl
      · rw [Memory.read, if_neg (Ne.symm h)]
    · split
      · subst a
        split
        · rw [Memory.read, if_neg (Ne.symm h)]
        · rw [Memory.read, if_neg (Ne.symm h), Memory.read, if_neg (Ne.symm h)]
      · simp only [Memory.read, ih ht]

/-- Read after write, both cases. -/
theorem Memory.read_write {m : Memory} (hm : Memory.wf m) (a b : Nat) (v : Byte) :
    Memory.read (Memory.write m a v) b = if b = a then v else Memory.read m b := by
  split
  · subst b; exact Memory.read_write_same hm a v
  · exact Memory.read_write_other hm v ‹_›

/-- Canonical memories with equal reads are equal. -/
theorem Memory.ext_read : {m n : Memory} → Memory.wf m → Memory.wf n →
    (∀ a, Memory.read m a = Memory.read n a) → m = n
  | [], [], _, _, _ => rfl
  | [], (k, w) :: n, _, hn, h => by
    have := h k
    simp only [Memory.read, if_true] at this
    exact absurd this.symm (Memory.wf_cons.mp hn).2.1
  | (k, w) :: m, [], hm, _, h => by
    have := h k
    simp only [Memory.read, if_true] at this
    exact absurd this (Memory.wf_cons.mp hm).2.1
  | (k, w) :: m, (l, x) :: n, hm, hn, h => by
    obtain ⟨ha, hw, hm'⟩ := Memory.wf_cons.mp hm
    obtain ⟨hb, hx, hn'⟩ := Memory.wf_cons.mp hn
    have hkl : k = l := by
      rcases Nat.lt_trichotomy k l with hlt | heq | hgt
      · have := h k
        rw [Memory.read, if_pos rfl, Memory.read, if_neg (by omega),
          Memory.read_of_above (fun y hy => Nat.lt_trans hlt (hb y hy))] at this
        exact absurd this hw
      · exact heq
      · have := h l
        rw [Memory.read, if_neg (by omega), Memory.read_of_above (fun y hy => Nat.lt_trans hgt (ha y hy)),
          Memory.read, if_pos rfl] at this
        exact absurd this.symm hx
    subst hkl
    have hwx : w = x := by simpa [Memory.read] using h k
    subst hwx
    have := Memory.ext_read hm' hn' (fun a => by
      have ha' := h a
      simp only [Memory.read] at ha'
      split at ha'
      · subst a; rw [Memory.read_of_above ha, Memory.read_of_above hb]
      · exact ha')
    rw [this]

/-- The memory made of a byte list is canonical, all its addresses from `base` on. -/
theorem Memory.ofBytes_wf (bytes : List Byte) (base : Nat) :
    Memory.wf (Memory.ofBytes base bytes) ∧
      ∀ x ∈ Memory.ofBytes base bytes, base ≤ x.1 ∧ x.1 < base + bytes.length := by
  induction bytes generalizing base with
  | nil => exact ⟨Memory.wf_nil, by simp [Memory.ofBytes]⟩
  | cons v vs ih =>
    obtain ⟨hw, hr⟩ := ih (base + 1)
    simp only [Memory.ofBytes, List.length_cons]
    split
    · exact ⟨hw, fun x hx => by have := hr x hx; omega⟩
    · refine ⟨Memory.wf_cons.mpr ⟨fun x hx => by have := hr x hx; omega, ‹_›, hw⟩, ?_⟩
      intro x hx
      rcases List.mem_cons.mp hx with rfl | hx
      · simp
      · have := hr x hx; omega

end Sys2Proof
end

