-- ==== Sys2Proof/Laws/State.lean ====
section
/-! SUPPORT. The small lemmas of the state updates: one per field per update. -/

namespace Sys2Proof.Machine

/-! ## `setA` -/

@[simp] theorem setA_regs (s : State) (v : Byte) : (setA s v).regs = { s.regs with a := v } := rfl
@[simp] theorem setA_ime (s : State) (v : Byte) : (setA s v).ime = s.ime := rfl
@[simp] theorem setA_eiDelay (s : State) (v : Byte) : (setA s v).eiDelay = s.eiDelay := rfl
@[simp] theorem setA_runState (s : State) (v : Byte) : (setA s v).runState = s.runState := rfl
@[simp] theorem setA_haltBugPending (s : State) (v : Byte) : (setA s v).haltBugPending = s.haltBugPending := rfl
@[simp] theorem setA_ie (s : State) (v : Byte) : (setA s v).ie = s.ie := rfl
@[simp] theorem setA_iflag (s : State) (v : Byte) : (setA s v).iflag = s.iflag := rfl
@[simp] theorem setA_p1Sel (s : State) (v : Byte) : (setA s v).p1Sel = s.p1Sel := rfl
@[simp] theorem setA_joyPrev (s : State) (v : Byte) : (setA s v).joyPrev = s.joyPrev := rfl
@[simp] theorem setA_timer (s : State) (v : Byte) : (setA s v).timer = s.timer := rfl
@[simp] theorem setA_serial (s : State) (v : Byte) : (setA s v).serial = s.serial := rfl
@[simp] theorem setA_lcd (s : State) (v : Byte) : (setA s v).lcd = s.lcd := rfl
@[simp] theorem setA_sound (s : State) (v : Byte) : (setA s v).sound = s.sound := rfl
@[simp] theorem setA_mem (s : State) (v : Byte) : (setA s v).mem = s.mem := rfl
@[simp] theorem setA_eram (s : State) (v : Byte) : (setA s v).eram = s.eram := rfl
@[simp] theorem setA_cart (s : State) (v : Byte) : (setA s v).cart = s.cart := rfl
@[simp] theorem setA_mbc (s : State) (v : Byte) : (setA s v).mbc = s.mbc := rfl
@[simp] theorem setA_bootOverlay (s : State) (v : Byte) : (setA s v).bootOverlay = s.bootOverlay := rfl
@[simp] theorem setA_haltBug (s : State) (v : Byte) : (setA s v).haltBug = s.haltBug := rfl
@[simp] theorem setA_host (s : State) (v : Byte) : (setA s v).host = s.host := rfl
@[simp] theorem setA_out (s : State) (v : Byte) : (setA s v).out = s.out := rfl
@[simp] theorem setA_cycles (s : State) (v : Byte) : (setA s v).cycles = s.cycles := rfl
@[simp] theorem setA_instrAddr (s : State) (v : Byte) : (setA s v).instrAddr = s.instrAddr := rfl

/-! ## `setSP` -/

@[simp] theorem setSP_regs (s : State) (w : Word) : (setSP s w).regs = { s.regs with sp := w } := rfl
@[simp] theorem setSP_ime (s : State) (w : Word) : (setSP s w).ime = s.ime := rfl
@[simp] theorem setSP_eiDelay (s : State) (w : Word) : (setSP s w).eiDelay = s.eiDelay := rfl
@[simp] theorem setSP_runState (s : State) (w : Word) : (setSP s w).runState = s.runState := rfl
@[simp] theorem setSP_haltBugPending (s : State) (w : Word) : (setSP s w).haltBugPending = s.haltBugPending := rfl
@[simp] theorem setSP_ie (s : State) (w : Word) : (setSP s w).ie = s.ie := rfl
@[simp] theorem setSP_iflag (s : State) (w : Word) : (setSP s w).iflag = s.iflag := rfl
@[simp] theorem setSP_p1Sel (s : State) (w : Word) : (setSP s w).p1Sel = s.p1Sel := rfl
@[simp] theorem setSP_joyPrev (s : State) (w : Word) : (setSP s w).joyPrev = s.joyPrev := rfl
@[simp] theorem setSP_timer (s : State) (w : Word) : (setSP s w).timer = s.timer := rfl
@[simp] theorem setSP_serial (s : State) (w : Word) : (setSP s w).serial = s.serial := rfl
@[simp] theorem setSP_lcd (s : State) (w : Word) : (setSP s w).lcd = s.lcd := rfl
@[simp] theorem setSP_sound (s : State) (w : Word) : (setSP s w).sound = s.sound := rfl
@[simp] theorem setSP_mem (s : State) (w : Word) : (setSP s w).mem = s.mem := rfl
@[simp] theorem setSP_eram (s : State) (w : Word) : (setSP s w).eram = s.eram := rfl
@[simp] theorem setSP_cart (s : State) (w : Word) : (setSP s w).cart = s.cart := rfl
@[simp] theorem setSP_mbc (s : State) (w : Word) : (setSP s w).mbc = s.mbc := rfl
@[simp] theorem setSP_bootOverlay (s : State) (w : Word) : (setSP s w).bootOverlay = s.bootOverlay := rfl
@[simp] theorem setSP_haltBug (s : State) (w : Word) : (setSP s w).haltBug = s.haltBug := rfl
@[simp] theorem setSP_host (s : State) (w : Word) : (setSP s w).host = s.host := rfl
@[simp] theorem setSP_out (s : State) (w : Word) : (setSP s w).out = s.out := rfl
@[simp] theorem setSP_cycles (s : State) (w : Word) : (setSP s w).cycles = s.cycles := rfl
@[simp] theorem setSP_instrAddr (s : State) (w : Word) : (setSP s w).instrAddr = s.instrAddr := rfl

/-! ## `setPC` -/

@[simp] theorem setPC_regs (s : State) (w : Word) : (setPC s w).regs = { s.regs with pc := w } := rfl
@[simp] theorem setPC_ime (s : State) (w : Word) : (setPC s w).ime = s.ime := rfl
@[simp] theorem setPC_eiDelay (s : State) (w : Word) : (setPC s w).eiDelay = s.eiDelay := rfl
@[simp] theorem setPC_runState (s : State) (w : Word) : (setPC s w).runState = s.runState := rfl
@[simp] theorem setPC_haltBugPending (s : State) (w : Word) : (setPC s w).haltBugPending = s.haltBugPending := rfl
@[simp] theorem setPC_ie (s : State) (w : Word) : (setPC s w).ie = s.ie := rfl
@[simp] theorem setPC_iflag (s : State) (w : Word) : (setPC s w).iflag = s.iflag := rfl
@[simp] theorem setPC_p1Sel (s : State) (w : Word) : (setPC s w).p1Sel = s.p1Sel := rfl
@[simp] theorem setPC_joyPrev (s : State) (w : Word) : (setPC s w).joyPrev = s.joyPrev := rfl
@[simp] theorem setPC_timer (s : State) (w : Word) : (setPC s w).timer = s.timer := rfl
@[simp] theorem setPC_serial (s : State) (w : Word) : (setPC s w).serial = s.serial := rfl
@[simp] theorem setPC_lcd (s : State) (w : Word) : (setPC s w).lcd = s.lcd := rfl
@[simp] theorem setPC_sound (s : State) (w : Word) : (setPC s w).sound = s.sound := rfl
@[simp] theorem setPC_mem (s : State) (w : Word) : (setPC s w).mem = s.mem := rfl
@[simp] theorem setPC_eram (s : State) (w : Word) : (setPC s w).eram = s.eram := rfl
@[simp] theorem setPC_cart (s : State) (w : Word) : (setPC s w).cart = s.cart := rfl
@[simp] theorem setPC_mbc (s : State) (w : Word) : (setPC s w).mbc = s.mbc := rfl
@[simp] theorem setPC_bootOverlay (s : State) (w : Word) : (setPC s w).bootOverlay = s.bootOverlay := rfl
@[simp] theorem setPC_haltBug (s : State) (w : Word) : (setPC s w).haltBug = s.haltBug := rfl
@[simp] theorem setPC_host (s : State) (w : Word) : (setPC s w).host = s.host := rfl
@[simp] theorem setPC_out (s : State) (w : Word) : (setPC s w).out = s.out := rfl
@[simp] theorem setPC_cycles (s : State) (w : Word) : (setPC s w).cycles = s.cycles := rfl
@[simp] theorem setPC_instrAddr (s : State) (w : Word) : (setPC s w).instrAddr = s.instrAddr := rfl

/-! ## `setHL` -/

@[simp] theorem setHL_regs (s : State) (w : Word) : (setHL s w).regs = { s.regs with h := hiByte w, l := loByte w } := rfl
@[simp] theorem setHL_ime (s : State) (w : Word) : (setHL s w).ime = s.ime := rfl
@[simp] theorem setHL_eiDelay (s : State) (w : Word) : (setHL s w).eiDelay = s.eiDelay := rfl
@[simp] theorem setHL_runState (s : State) (w : Word) : (setHL s w).runState = s.runState := rfl
@[simp] theorem setHL_haltBugPending (s : State) (w : Word) : (setHL s w).haltBugPending = s.haltBugPending := rfl
@[simp] theorem setHL_ie (s : State) (w : Word) : (setHL s w).ie = s.ie := rfl
@[simp] theorem setHL_iflag (s : State) (w : Word) : (setHL s w).iflag = s.iflag := rfl
@[simp] theorem setHL_p1Sel (s : State) (w : Word) : (setHL s w).p1Sel = s.p1Sel := rfl
@[simp] theorem setHL_joyPrev (s : State) (w : Word) : (setHL s w).joyPrev = s.joyPrev := rfl
@[simp] theorem setHL_timer (s : State) (w : Word) : (setHL s w).timer = s.timer := rfl
@[simp] theorem setHL_serial (s : State) (w : Word) : (setHL s w).serial = s.serial := rfl
@[simp] theorem setHL_lcd (s : State) (w : Word) : (setHL s w).lcd = s.lcd := rfl
@[simp] theorem setHL_sound (s : State) (w : Word) : (setHL s w).sound = s.sound := rfl
@[simp] theorem setHL_mem (s : State) (w : Word) : (setHL s w).mem = s.mem := rfl
@[simp] theorem setHL_eram (s : State) (w : Word) : (setHL s w).eram = s.eram := rfl
@[simp] theorem setHL_cart (s : State) (w : Word) : (setHL s w).cart = s.cart := rfl
@[simp] theorem setHL_mbc (s : State) (w : Word) : (setHL s w).mbc = s.mbc := rfl
@[simp] theorem setHL_bootOverlay (s : State) (w : Word) : (setHL s w).bootOverlay = s.bootOverlay := rfl
@[simp] theorem setHL_haltBug (s : State) (w : Word) : (setHL s w).haltBug = s.haltBug := rfl
@[simp] theorem setHL_host (s : State) (w : Word) : (setHL s w).host = s.host := rfl
@[simp] theorem setHL_out (s : State) (w : Word) : (setHL s w).out = s.out := rfl
@[simp] theorem setHL_cycles (s : State) (w : Word) : (setHL s w).cycles = s.cycles := rfl
@[simp] theorem setHL_instrAddr (s : State) (w : Word) : (setHL s w).instrAddr = s.instrAddr := rfl

/-! ## `setReg8` -/

@[simp] theorem setReg8_ime (s : State) (v : Byte) (r : Reg8) : (setReg8 s v r).ime = s.ime := by cases r <;> rfl
@[simp] theorem setReg8_eiDelay (s : State) (v : Byte) (r : Reg8) : (setReg8 s v r).eiDelay = s.eiDelay := by cases r <;> rfl
@[simp] theorem setReg8_runState (s : State) (v : Byte) (r : Reg8) : (setReg8 s v r).runState = s.runState := by cases r <;> rfl
@[simp] theorem setReg8_haltBugPending (s : State) (v : Byte) (r : Reg8) : (setReg8 s v r).haltBugPending = s.haltBugPending := by cases r <;> rfl
@[simp] theorem setReg8_ie (s : State) (v : Byte) (r : Reg8) : (setReg8 s v r).ie = s.ie := by cases r <;> rfl
@[simp] theorem setReg8_iflag (s : State) (v : Byte) (r : Reg8) : (setReg8 s v r).iflag = s.iflag := by cases r <;> rfl
@[simp] theorem setReg8_p1Sel (s : State) (v : Byte) (r : Reg8) : (setReg8 s v r).p1Sel = s.p1Sel := by cases r <;> rfl
@[simp] theorem setReg8_joyPrev (s : State) (v : Byte) (r : Reg8) : (setReg8 s v r).joyPrev = s.joyPrev := by cases r <;> rfl
@[simp] theorem setReg8_timer (s : State) (v : Byte) (r : Reg8) : (setReg8 s v r).timer = s.timer := by cases r <;> rfl
@[simp] theorem setReg8_serial (s : State) (v : Byte) (r : Reg8) : (setReg8 s v r).serial = s.serial := by cases r <;> rfl
@[simp] theorem setReg8_lcd (s : State) (v : Byte) (r : Reg8) : (setReg8 s v r).lcd = s.lcd := by cases r <;> rfl
@[simp] theorem setReg8_sound (s : State) (v : Byte) (r : Reg8) : (setReg8 s v r).sound = s.sound := by cases r <;> rfl
@[simp] theorem setReg8_mem (s : State) (v : Byte) (r : Reg8) : (setReg8 s v r).mem = s.mem := by cases r <;> rfl
@[simp] theorem setReg8_eram (s : State) (v : Byte) (r : Reg8) : (setReg8 s v r).eram = s.eram := by cases r <;> rfl
@[simp] theorem setReg8_cart (s : State) (v : Byte) (r : Reg8) : (setReg8 s v r).cart = s.cart := by cases r <;> rfl
@[simp] theorem setReg8_mbc (s : State) (v : Byte) (r : Reg8) : (setReg8 s v r).mbc = s.mbc := by cases r <;> rfl
@[simp] theorem setReg8_bootOverlay (s : State) (v : Byte) (r : Reg8) : (setReg8 s v r).bootOverlay = s.bootOverlay := by cases r <;> rfl
@[simp] theorem setReg8_haltBug (s : State) (v : Byte) (r : Reg8) : (setReg8 s v r).haltBug = s.haltBug := by cases r <;> rfl
@[simp] theorem setReg8_host (s : State) (v : Byte) (r : Reg8) : (setReg8 s v r).host = s.host := by cases r <;> rfl
@[simp] theorem setReg8_out (s : State) (v : Byte) (r : Reg8) : (setReg8 s v r).out = s.out := by cases r <;> rfl
@[simp] theorem setReg8_cycles (s : State) (v : Byte) (r : Reg8) : (setReg8 s v r).cycles = s.cycles := by cases r <;> rfl
@[simp] theorem setReg8_instrAddr (s : State) (v : Byte) (r : Reg8) : (setReg8 s v r).instrAddr = s.instrAddr := by cases r <;> rfl

/-! ## `setReg16` -/

@[simp] theorem setReg16_ime (s : State) (w : Word) (p : Reg16) : (setReg16 s w p).ime = s.ime := by cases p <;> rfl
@[simp] theorem setReg16_eiDelay (s : State) (w : Word) (p : Reg16) : (setReg16 s w p).eiDelay = s.eiDelay := by cases p <;> rfl
@[simp] theorem setReg16_runState (s : State) (w : Word) (p : Reg16) : (setReg16 s w p).runState = s.runState := by cases p <;> rfl
@[simp] theorem setReg16_haltBugPending (s : State) (w : Word) (p : Reg16) : (setReg16 s w p).haltBugPending = s.haltBugPending := by cases p <;> rfl
@[simp] theorem setReg16_ie (s : State) (w : Word) (p : Reg16) : (setReg16 s w p).ie = s.ie := by cases p <;> rfl
@[simp] theorem setReg16_iflag (s : State) (w : Word) (p : Reg16) : (setReg16 s w p).iflag = s.iflag := by cases p <;> rfl
@[simp] theorem setReg16_p1Sel (s : State) (w : Word) (p : Reg16) : (setReg16 s w p).p1Sel = s.p1Sel := by cases p <;> rfl
@[simp] theorem setReg16_joyPrev (s : State) (w : Word) (p : Reg16) : (setReg16 s w p).joyPrev = s.joyPrev := by cases p <;> rfl
@[simp] theorem setReg16_timer (s : State) (w : Word) (p : Reg16) : (setReg16 s w p).timer = s.timer := by cases p <;> rfl
@[simp] theorem setReg16_serial (s : State) (w : Word) (p : Reg16) : (setReg16 s w p).serial = s.serial := by cases p <;> rfl
@[simp] theorem setReg16_lcd (s : State) (w : Word) (p : Reg16) : (setReg16 s w p).lcd = s.lcd := by cases p <;> rfl
@[simp] theorem setReg16_sound (s : State) (w : Word) (p : Reg16) : (setReg16 s w p).sound = s.sound := by cases p <;> rfl
@[simp] theorem setReg16_mem (s : State) (w : Word) (p : Reg16) : (setReg16 s w p).mem = s.mem := by cases p <;> rfl
@[simp] theorem setReg16_eram (s : State) (w : Word) (p : Reg16) : (setReg16 s w p).eram = s.eram := by cases p <;> rfl
@[simp] theorem setReg16_cart (s : State) (w : Word) (p : Reg16) : (setReg16 s w p).cart = s.cart := by cases p <;> rfl
@[simp] theorem setReg16_mbc (s : State) (w : Word) (p : Reg16) : (setReg16 s w p).mbc = s.mbc := by cases p <;> rfl
@[simp] theorem setReg16_bootOverlay (s : State) (w : Word) (p : Reg16) : (setReg16 s w p).bootOverlay = s.bootOverlay := by cases p <;> rfl
@[simp] theorem setReg16_haltBug (s : State) (w : Word) (p : Reg16) : (setReg16 s w p).haltBug = s.haltBug := by cases p <;> rfl
@[simp] theorem setReg16_host (s : State) (w : Word) (p : Reg16) : (setReg16 s w p).host = s.host := by cases p <;> rfl
@[simp] theorem setReg16_out (s : State) (w : Word) (p : Reg16) : (setReg16 s w p).out = s.out := by cases p <;> rfl
@[simp] theorem setReg16_cycles (s : State) (w : Word) (p : Reg16) : (setReg16 s w p).cycles = s.cycles := by cases p <;> rfl
@[simp] theorem setReg16_instrAddr (s : State) (w : Word) (p : Reg16) : (setReg16 s w p).instrAddr = s.instrAddr := by cases p <;> rfl

/-! ## `setStackReg` -/

@[simp] theorem setStackReg_ime (s : State) (w : Word) (q : StackReg) : (setStackReg s w q).ime = s.ime := by cases q <;> rfl
@[simp] theorem setStackReg_eiDelay (s : State) (w : Word) (q : StackReg) : (setStackReg s w q).eiDelay = s.eiDelay := by cases q <;> rfl
@[simp] theorem setStackReg_runState (s : State) (w : Word) (q : StackReg) : (setStackReg s w q).runState = s.runState := by cases q <;> rfl
@[simp] theorem setStackReg_haltBugPending (s : State) (w : Word) (q : StackReg) : (setStackReg s w q).haltBugPending = s.haltBugPending := by cases q <;> rfl
@[simp] theorem setStackReg_ie (s : State) (w : Word) (q : StackReg) : (setStackReg s w q).ie = s.ie := by cases q <;> rfl
@[simp] theorem setStackReg_iflag (s : State) (w : Word) (q : StackReg) : (setStackReg s w q).iflag = s.iflag := by cases q <;> rfl
@[simp] theorem setStackReg_p1Sel (s : State) (w : Word) (q : StackReg) : (setStackReg s w q).p1Sel = s.p1Sel := by cases q <;> rfl
@[simp] theorem setStackReg_joyPrev (s : State) (w : Word) (q : StackReg) : (setStackReg s w q).joyPrev = s.joyPrev := by cases q <;> rfl
@[simp] theorem setStackReg_timer (s : State) (w : Word) (q : StackReg) : (setStackReg s w q).timer = s.timer := by cases q <;> rfl
@[simp] theorem setStackReg_serial (s : State) (w : Word) (q : StackReg) : (setStackReg s w q).serial = s.serial := by cases q <;> rfl
@[simp] theorem setStackReg_lcd (s : State) (w : Word) (q : StackReg) : (setStackReg s w q).lcd = s.lcd := by cases q <;> rfl
@[simp] theorem setStackReg_sound (s : State) (w : Word) (q : StackReg) : (setStackReg s w q).sound = s.sound := by cases q <;> rfl
@[simp] theorem setStackReg_mem (s : State) (w : Word) (q : StackReg) : (setStackReg s w q).mem = s.mem := by cases q <;> rfl
@[simp] theorem setStackReg_eram (s : State) (w : Word) (q : StackReg) : (setStackReg s w q).eram = s.eram := by cases q <;> rfl
@[simp] theorem setStackReg_cart (s : State) (w : Word) (q : StackReg) : (setStackReg s w q).cart = s.cart := by cases q <;> rfl
@[simp] theorem setStackReg_mbc (s : State) (w : Word) (q : StackReg) : (setStackReg s w q).mbc = s.mbc := by cases q <;> rfl
@[simp] theorem setStackReg_bootOverlay (s : State) (w : Word) (q : StackReg) : (setStackReg s w q).bootOverlay = s.bootOverlay := by cases q <;> rfl
@[simp] theorem setStackReg_haltBug (s : State) (w : Word) (q : StackReg) : (setStackReg s w q).haltBug = s.haltBug := by cases q <;> rfl
@[simp] theorem setStackReg_host (s : State) (w : Word) (q : StackReg) : (setStackReg s w q).host = s.host := by cases q <;> rfl
@[simp] theorem setStackReg_out (s : State) (w : Word) (q : StackReg) : (setStackReg s w q).out = s.out := by cases q <;> rfl
@[simp] theorem setStackReg_cycles (s : State) (w : Word) (q : StackReg) : (setStackReg s w q).cycles = s.cycles := by cases q <;> rfl
@[simp] theorem setStackReg_instrAddr (s : State) (w : Word) (q : StackReg) : (setStackReg s w q).instrAddr = s.instrAddr := by cases q <;> rfl

/-! ## `writeFlags` -/

@[simp] theorem writeFlags_ime (s : State) (w : FlagWrite) : (writeFlags s w).ime = s.ime := rfl
@[simp] theorem writeFlags_eiDelay (s : State) (w : FlagWrite) : (writeFlags s w).eiDelay = s.eiDelay := rfl
@[simp] theorem writeFlags_runState (s : State) (w : FlagWrite) : (writeFlags s w).runState = s.runState := rfl
@[simp] theorem writeFlags_haltBugPending (s : State) (w : FlagWrite) : (writeFlags s w).haltBugPending = s.haltBugPending := rfl
@[simp] theorem writeFlags_ie (s : State) (w : FlagWrite) : (writeFlags s w).ie = s.ie := rfl
@[simp] theorem writeFlags_iflag (s : State) (w : FlagWrite) : (writeFlags s w).iflag = s.iflag := rfl
@[simp] theorem writeFlags_p1Sel (s : State) (w : FlagWrite) : (writeFlags s w).p1Sel = s.p1Sel := rfl
@[simp] theorem writeFlags_joyPrev (s : State) (w : FlagWrite) : (writeFlags s w).joyPrev = s.joyPrev := rfl
@[simp] theorem writeFlags_timer (s : State) (w : FlagWrite) : (writeFlags s w).timer = s.timer := rfl
@[simp] theorem writeFlags_serial (s : State) (w : FlagWrite) : (writeFlags s w).serial = s.serial := rfl
@[simp] theorem writeFlags_lcd (s : State) (w : FlagWrite) : (writeFlags s w).lcd = s.lcd := rfl
@[simp] theorem writeFlags_sound (s : State) (w : FlagWrite) : (writeFlags s w).sound = s.sound := rfl
@[simp] theorem writeFlags_mem (s : State) (w : FlagWrite) : (writeFlags s w).mem = s.mem := rfl
@[simp] theorem writeFlags_eram (s : State) (w : FlagWrite) : (writeFlags s w).eram = s.eram := rfl
@[simp] theorem writeFlags_cart (s : State) (w : FlagWrite) : (writeFlags s w).cart = s.cart := rfl
@[simp] theorem writeFlags_mbc (s : State) (w : FlagWrite) : (writeFlags s w).mbc = s.mbc := rfl
@[simp] theorem writeFlags_bootOverlay (s : State) (w : FlagWrite) : (writeFlags s w).bootOverlay = s.bootOverlay := rfl
@[simp] theorem writeFlags_haltBug (s : State) (w : FlagWrite) : (writeFlags s w).haltBug = s.haltBug := rfl
@[simp] theorem writeFlags_host (s : State) (w : FlagWrite) : (writeFlags s w).host = s.host := rfl
@[simp] theorem writeFlags_out (s : State) (w : FlagWrite) : (writeFlags s w).out = s.out := rfl
@[simp] theorem writeFlags_cycles (s : State) (w : FlagWrite) : (writeFlags s w).cycles = s.cycles := rfl
@[simp] theorem writeFlags_instrAddr (s : State) (w : FlagWrite) : (writeFlags s w).instrAddr = s.instrAddr := rfl

/-! ## `withSound` -/

@[simp] theorem withSound_regs (s : State) (d : Sound) : (withSound s d).regs = s.regs := rfl
@[simp] theorem withSound_ime (s : State) (d : Sound) : (withSound s d).ime = s.ime := rfl
@[simp] theorem withSound_eiDelay (s : State) (d : Sound) : (withSound s d).eiDelay = s.eiDelay := rfl
@[simp] theorem withSound_runState (s : State) (d : Sound) : (withSound s d).runState = s.runState := rfl
@[simp] theorem withSound_haltBugPending (s : State) (d : Sound) : (withSound s d).haltBugPending = s.haltBugPending := rfl
@[simp] theorem withSound_ie (s : State) (d : Sound) : (withSound s d).ie = s.ie := rfl
@[simp] theorem withSound_iflag (s : State) (d : Sound) : (withSound s d).iflag = s.iflag := rfl
@[simp] theorem withSound_p1Sel (s : State) (d : Sound) : (withSound s d).p1Sel = s.p1Sel := rfl
@[simp] theorem withSound_joyPrev (s : State) (d : Sound) : (withSound s d).joyPrev = s.joyPrev := rfl
@[simp] theorem withSound_timer (s : State) (d : Sound) : (withSound s d).timer = s.timer := rfl
@[simp] theorem withSound_serial (s : State) (d : Sound) : (withSound s d).serial = s.serial := rfl
@[simp] theorem withSound_lcd (s : State) (d : Sound) : (withSound s d).lcd = s.lcd := rfl
@[simp] theorem withSound_sound (s : State) (d : Sound) : (withSound s d).sound = d := rfl
@[simp] theorem withSound_mem (s : State) (d : Sound) : (withSound s d).mem = s.mem := rfl
@[simp] theorem withSound_eram (s : State) (d : Sound) : (withSound s d).eram = s.eram := rfl
@[simp] theorem withSound_cart (s : State) (d : Sound) : (withSound s d).cart = s.cart := rfl
@[simp] theorem withSound_mbc (s : State) (d : Sound) : (withSound s d).mbc = s.mbc := rfl
@[simp] theorem withSound_bootOverlay (s : State) (d : Sound) : (withSound s d).bootOverlay = s.bootOverlay := rfl
@[simp] theorem withSound_haltBug (s : State) (d : Sound) : (withSound s d).haltBug = s.haltBug := rfl
@[simp] theorem withSound_host (s : State) (d : Sound) : (withSound s d).host = s.host := rfl
@[simp] theorem withSound_out (s : State) (d : Sound) : (withSound s d).out = s.out := rfl
@[simp] theorem withSound_cycles (s : State) (d : Sound) : (withSound s d).cycles = s.cycles := rfl
@[simp] theorem withSound_instrAddr (s : State) (d : Sound) : (withSound s d).instrAddr = s.instrAddr := rfl

/-! ## `withLcd` -/

@[simp] theorem withLcd_regs (s : State) (d : Lcd) : (withLcd s d).regs = s.regs := rfl
@[simp] theorem withLcd_ime (s : State) (d : Lcd) : (withLcd s d).ime = s.ime := rfl
@[simp] theorem withLcd_eiDelay (s : State) (d : Lcd) : (withLcd s d).eiDelay = s.eiDelay := rfl
@[simp] theorem withLcd_runState (s : State) (d : Lcd) : (withLcd s d).runState = s.runState := rfl
@[simp] theorem withLcd_haltBugPending (s : State) (d : Lcd) : (withLcd s d).haltBugPending = s.haltBugPending := rfl
@[simp] theorem withLcd_ie (s : State) (d : Lcd) : (withLcd s d).ie = s.ie := rfl
@[simp] theorem withLcd_iflag (s : State) (d : Lcd) : (withLcd s d).iflag = s.iflag := rfl
@[simp] theorem withLcd_p1Sel (s : State) (d : Lcd) : (withLcd s d).p1Sel = s.p1Sel := rfl
@[simp] theorem withLcd_joyPrev (s : State) (d : Lcd) : (withLcd s d).joyPrev = s.joyPrev := rfl
@[simp] theorem withLcd_timer (s : State) (d : Lcd) : (withLcd s d).timer = s.timer := rfl
@[simp] theorem withLcd_serial (s : State) (d : Lcd) : (withLcd s d).serial = s.serial := rfl
@[simp] theorem withLcd_lcd (s : State) (d : Lcd) : (withLcd s d).lcd = d := rfl
@[simp] theorem withLcd_sound (s : State) (d : Lcd) : (withLcd s d).sound = s.sound := rfl
@[simp] theorem withLcd_mem (s : State) (d : Lcd) : (withLcd s d).mem = s.mem := rfl
@[simp] theorem withLcd_eram (s : State) (d : Lcd) : (withLcd s d).eram = s.eram := rfl
@[simp] theorem withLcd_cart (s : State) (d : Lcd) : (withLcd s d).cart = s.cart := rfl
@[simp] theorem withLcd_mbc (s : State) (d : Lcd) : (withLcd s d).mbc = s.mbc := rfl
@[simp] theorem withLcd_bootOverlay (s : State) (d : Lcd) : (withLcd s d).bootOverlay = s.bootOverlay := rfl
@[simp] theorem withLcd_haltBug (s : State) (d : Lcd) : (withLcd s d).haltBug = s.haltBug := rfl
@[simp] theorem withLcd_host (s : State) (d : Lcd) : (withLcd s d).host = s.host := rfl
@[simp] theorem withLcd_out (s : State) (d : Lcd) : (withLcd s d).out = s.out := rfl
@[simp] theorem withLcd_cycles (s : State) (d : Lcd) : (withLcd s d).cycles = s.cycles := rfl
@[simp] theorem withLcd_instrAddr (s : State) (d : Lcd) : (withLcd s d).instrAddr = s.instrAddr := rfl

/-! ## `request` -/

@[simp] theorem request_regs (l : Line) (s : State) : (request l s).regs = s.regs := rfl
@[simp] theorem request_ime (l : Line) (s : State) : (request l s).ime = s.ime := rfl
@[simp] theorem request_eiDelay (l : Line) (s : State) : (request l s).eiDelay = s.eiDelay := rfl
@[simp] theorem request_runState (l : Line) (s : State) : (request l s).runState = s.runState := rfl
@[simp] theorem request_haltBugPending (l : Line) (s : State) : (request l s).haltBugPending = s.haltBugPending := rfl
@[simp] theorem request_ie (l : Line) (s : State) : (request l s).ie = s.ie := rfl
@[simp] theorem request_iflag (l : Line) (s : State) : (request l s).iflag = s.iflag ||| (1#5 <<< l.bit) := rfl
@[simp] theorem request_p1Sel (l : Line) (s : State) : (request l s).p1Sel = s.p1Sel := rfl
@[simp] theorem request_joyPrev (l : Line) (s : State) : (request l s).joyPrev = s.joyPrev := rfl
@[simp] theorem request_timer (l : Line) (s : State) : (request l s).timer = s.timer := rfl
@[simp] theorem request_serial (l : Line) (s : State) : (request l s).serial = s.serial := rfl
@[simp] theorem request_lcd (l : Line) (s : State) : (request l s).lcd = s.lcd := rfl
@[simp] theorem request_sound (l : Line) (s : State) : (request l s).sound = s.sound := rfl
@[simp] theorem request_mem (l : Line) (s : State) : (request l s).mem = s.mem := rfl
@[simp] theorem request_eram (l : Line) (s : State) : (request l s).eram = s.eram := rfl
@[simp] theorem request_cart (l : Line) (s : State) : (request l s).cart = s.cart := rfl
@[simp] theorem request_mbc (l : Line) (s : State) : (request l s).mbc = s.mbc := rfl
@[simp] theorem request_bootOverlay (l : Line) (s : State) : (request l s).bootOverlay = s.bootOverlay := rfl
@[simp] theorem request_haltBug (l : Line) (s : State) : (request l s).haltBug = s.haltBug := rfl
@[simp] theorem request_host (l : Line) (s : State) : (request l s).host = s.host := rfl
@[simp] theorem request_out (l : Line) (s : State) : (request l s).out = s.out := rfl
@[simp] theorem request_cycles (l : Line) (s : State) : (request l s).cycles = s.cycles := rfl
@[simp] theorem request_instrAddr (l : Line) (s : State) : (request l s).instrAddr = s.instrAddr := rfl

/-! ## `drawButtons` -/

@[simp] theorem drawButtons_regs (s : State) : (drawButtons s).regs = s.regs := rfl
@[simp] theorem drawButtons_ime (s : State) : (drawButtons s).ime = s.ime := rfl
@[simp] theorem drawButtons_eiDelay (s : State) : (drawButtons s).eiDelay = s.eiDelay := rfl
@[simp] theorem drawButtons_runState (s : State) : (drawButtons s).runState = s.runState := rfl
@[simp] theorem drawButtons_haltBugPending (s : State) : (drawButtons s).haltBugPending = s.haltBugPending := rfl
@[simp] theorem drawButtons_ie (s : State) : (drawButtons s).ie = s.ie := rfl
@[simp] theorem drawButtons_iflag (s : State) : (drawButtons s).iflag = s.iflag := rfl
@[simp] theorem drawButtons_p1Sel (s : State) : (drawButtons s).p1Sel = s.p1Sel := rfl
@[simp] theorem drawButtons_joyPrev (s : State) : (drawButtons s).joyPrev = s.joyPrev := rfl
@[simp] theorem drawButtons_timer (s : State) : (drawButtons s).timer = s.timer := rfl
@[simp] theorem drawButtons_serial (s : State) : (drawButtons s).serial = s.serial := rfl
@[simp] theorem drawButtons_lcd (s : State) : (drawButtons s).lcd = s.lcd := rfl
@[simp] theorem drawButtons_sound (s : State) : (drawButtons s).sound = s.sound := rfl
@[simp] theorem drawButtons_mem (s : State) : (drawButtons s).mem = s.mem := rfl
@[simp] theorem drawButtons_eram (s : State) : (drawButtons s).eram = s.eram := rfl
@[simp] theorem drawButtons_cart (s : State) : (drawButtons s).cart = s.cart := rfl
@[simp] theorem drawButtons_mbc (s : State) : (drawButtons s).mbc = s.mbc := rfl
@[simp] theorem drawButtons_bootOverlay (s : State) : (drawButtons s).bootOverlay = s.bootOverlay := rfl
@[simp] theorem drawButtons_haltBug (s : State) : (drawButtons s).haltBug = s.haltBug := rfl
@[simp] theorem drawButtons_host (s : State) : (drawButtons s).host = { s.host with buttons := Oracle.draw s.host.buttons } := rfl
@[simp] theorem drawButtons_out (s : State) : (drawButtons s).out = s.out := rfl
@[simp] theorem drawButtons_cycles (s : State) : (drawButtons s).cycles = s.cycles := rfl
@[simp] theorem drawButtons_instrAddr (s : State) : (drawButtons s).instrAddr = s.instrAddr := rfl

/-! ## `drawRtcNow` -/

@[simp] theorem drawRtcNow_regs (s : State) : (drawRtcNow s).regs = s.regs := rfl
@[simp] theorem drawRtcNow_ime (s : State) : (drawRtcNow s).ime = s.ime := rfl
@[simp] theorem drawRtcNow_eiDelay (s : State) : (drawRtcNow s).eiDelay = s.eiDelay := rfl
@[simp] theorem drawRtcNow_runState (s : State) : (drawRtcNow s).runState = s.runState := rfl
@[simp] theorem drawRtcNow_haltBugPending (s : State) : (drawRtcNow s).haltBugPending = s.haltBugPending := rfl
@[simp] theorem drawRtcNow_ie (s : State) : (drawRtcNow s).ie = s.ie := rfl
@[simp] theorem drawRtcNow_iflag (s : State) : (drawRtcNow s).iflag = s.iflag := rfl
@[simp] theorem drawRtcNow_p1Sel (s : State) : (drawRtcNow s).p1Sel = s.p1Sel := rfl
@[simp] theorem drawRtcNow_joyPrev (s : State) : (drawRtcNow s).joyPrev = s.joyPrev := rfl
@[simp] theorem drawRtcNow_timer (s : State) : (drawRtcNow s).timer = s.timer := rfl
@[simp] theorem drawRtcNow_serial (s : State) : (drawRtcNow s).serial = s.serial := rfl
@[simp] theorem drawRtcNow_lcd (s : State) : (drawRtcNow s).lcd = s.lcd := rfl
@[simp] theorem drawRtcNow_sound (s : State) : (drawRtcNow s).sound = s.sound := rfl
@[simp] theorem drawRtcNow_mem (s : State) : (drawRtcNow s).mem = s.mem := rfl
@[simp] theorem drawRtcNow_eram (s : State) : (drawRtcNow s).eram = s.eram := rfl
@[simp] theorem drawRtcNow_cart (s : State) : (drawRtcNow s).cart = s.cart := rfl
@[simp] theorem drawRtcNow_mbc (s : State) : (drawRtcNow s).mbc = s.mbc := rfl
@[simp] theorem drawRtcNow_bootOverlay (s : State) : (drawRtcNow s).bootOverlay = s.bootOverlay := rfl
@[simp] theorem drawRtcNow_haltBug (s : State) : (drawRtcNow s).haltBug = s.haltBug := rfl
@[simp] theorem drawRtcNow_host (s : State) : (drawRtcNow s).host = { s.host with rtcNow := Oracle.draw s.host.rtcNow } := rfl
@[simp] theorem drawRtcNow_out (s : State) : (drawRtcNow s).out = s.out := rfl
@[simp] theorem drawRtcNow_cycles (s : State) : (drawRtcNow s).cycles = s.cycles := rfl
@[simp] theorem drawRtcNow_instrAddr (s : State) : (drawRtcNow s).instrAddr = s.instrAddr := rfl

/-! ## `drawSerialPeer` -/

@[simp] theorem drawSerialPeer_regs (s : State) : (drawSerialPeer s).regs = s.regs := rfl
@[simp] theorem drawSerialPeer_ime (s : State) : (drawSerialPeer s).ime = s.ime := rfl
@[simp] theorem drawSerialPeer_eiDelay (s : State) : (drawSerialPeer s).eiDelay = s.eiDelay := rfl
@[simp] theorem drawSerialPeer_runState (s : State) : (drawSerialPeer s).runState = s.runState := rfl
@[simp] theorem drawSerialPeer_haltBugPending (s : State) : (drawSerialPeer s).haltBugPending = s.haltBugPending := rfl
@[simp] theorem drawSerialPeer_ie (s : State) : (drawSerialPeer s).ie = s.ie := rfl
@[simp] theorem drawSerialPeer_iflag (s : State) : (drawSerialPeer s).iflag = s.iflag := rfl
@[simp] theorem drawSerialPeer_p1Sel (s : State) : (drawSerialPeer s).p1Sel = s.p1Sel := rfl
@[simp] theorem drawSerialPeer_joyPrev (s : State) : (drawSerialPeer s).joyPrev = s.joyPrev := rfl
@[simp] theorem drawSerialPeer_timer (s : State) : (drawSerialPeer s).timer = s.timer := rfl
@[simp] theorem drawSerialPeer_serial (s : State) : (drawSerialPeer s).serial = s.serial := rfl
@[simp] theorem drawSerialPeer_lcd (s : State) : (drawSerialPeer s).lcd = s.lcd := rfl
@[simp] theorem drawSerialPeer_sound (s : State) : (drawSerialPeer s).sound = s.sound := rfl
@[simp] theorem drawSerialPeer_mem (s : State) : (drawSerialPeer s).mem = s.mem := rfl
@[simp] theorem drawSerialPeer_eram (s : State) : (drawSerialPeer s).eram = s.eram := rfl
@[simp] theorem drawSerialPeer_cart (s : State) : (drawSerialPeer s).cart = s.cart := rfl
@[simp] theorem drawSerialPeer_mbc (s : State) : (drawSerialPeer s).mbc = s.mbc := rfl
@[simp] theorem drawSerialPeer_bootOverlay (s : State) : (drawSerialPeer s).bootOverlay = s.bootOverlay := rfl
@[simp] theorem drawSerialPeer_haltBug (s : State) : (drawSerialPeer s).haltBug = s.haltBug := rfl
@[simp] theorem drawSerialPeer_host (s : State) : (drawSerialPeer s).host = { s.host with serialPeer := Oracle.draw s.host.serialPeer } := rfl
@[simp] theorem drawSerialPeer_out (s : State) : (drawSerialPeer s).out = s.out := rfl
@[simp] theorem drawSerialPeer_cycles (s : State) : (drawSerialPeer s).cycles = s.cycles := rfl
@[simp] theorem drawSerialPeer_instrAddr (s : State) : (drawSerialPeer s).instrAddr = s.instrAddr := rfl

/-! ## `drawPaletteSwap` -/

@[simp] theorem drawPaletteSwap_regs (s : State) : (drawPaletteSwap s).regs = s.regs := rfl
@[simp] theorem drawPaletteSwap_ime (s : State) : (drawPaletteSwap s).ime = s.ime := rfl
@[simp] theorem drawPaletteSwap_eiDelay (s : State) : (drawPaletteSwap s).eiDelay = s.eiDelay := rfl
@[simp] theorem drawPaletteSwap_runState (s : State) : (drawPaletteSwap s).runState = s.runState := rfl
@[simp] theorem drawPaletteSwap_haltBugPending (s : State) : (drawPaletteSwap s).haltBugPending = s.haltBugPending := rfl
@[simp] theorem drawPaletteSwap_ie (s : State) : (drawPaletteSwap s).ie = s.ie := rfl
@[simp] theorem drawPaletteSwap_iflag (s : State) : (drawPaletteSwap s).iflag = s.iflag := rfl
@[simp] theorem drawPaletteSwap_p1Sel (s : State) : (drawPaletteSwap s).p1Sel = s.p1Sel := rfl
@[simp] theorem drawPaletteSwap_joyPrev (s : State) : (drawPaletteSwap s).joyPrev = s.joyPrev := rfl
@[simp] theorem drawPaletteSwap_timer (s : State) : (drawPaletteSwap s).timer = s.timer := rfl
@[simp] theorem drawPaletteSwap_serial (s : State) : (drawPaletteSwap s).serial = s.serial := rfl
@[simp] theorem drawPaletteSwap_lcd (s : State) : (drawPaletteSwap s).lcd = s.lcd := rfl
@[simp] theorem drawPaletteSwap_sound (s : State) : (drawPaletteSwap s).sound = s.sound := rfl
@[simp] theorem drawPaletteSwap_mem (s : State) : (drawPaletteSwap s).mem = s.mem := rfl
@[simp] theorem drawPaletteSwap_eram (s : State) : (drawPaletteSwap s).eram = s.eram := rfl
@[simp] theorem drawPaletteSwap_cart (s : State) : (drawPaletteSwap s).cart = s.cart := rfl
@[simp] theorem drawPaletteSwap_mbc (s : State) : (drawPaletteSwap s).mbc = s.mbc := rfl
@[simp] theorem drawPaletteSwap_bootOverlay (s : State) : (drawPaletteSwap s).bootOverlay = s.bootOverlay := rfl
@[simp] theorem drawPaletteSwap_haltBug (s : State) : (drawPaletteSwap s).haltBug = s.haltBug := rfl
@[simp] theorem drawPaletteSwap_host (s : State) : (drawPaletteSwap s).host = { s.host with paletteSwap := Oracle.draw s.host.paletteSwap } := rfl
@[simp] theorem drawPaletteSwap_out (s : State) : (drawPaletteSwap s).out = s.out := rfl
@[simp] theorem drawPaletteSwap_cycles (s : State) : (drawPaletteSwap s).cycles = s.cycles := rfl
@[simp] theorem drawPaletteSwap_instrAddr (s : State) : (drawPaletteSwap s).instrAddr = s.instrAddr := rfl

/-! ## `afterRead` -/

@[simp] theorem afterRead_regs (s : State) (a : Word) : (afterRead s a).regs = s.regs := by unfold afterRead; split <;> rfl
@[simp] theorem afterRead_ime (s : State) (a : Word) : (afterRead s a).ime = s.ime := by unfold afterRead; split <;> rfl
@[simp] theorem afterRead_eiDelay (s : State) (a : Word) : (afterRead s a).eiDelay = s.eiDelay := by unfold afterRead; split <;> rfl
@[simp] theorem afterRead_runState (s : State) (a : Word) : (afterRead s a).runState = s.runState := by unfold afterRead; split <;> rfl
@[simp] theorem afterRead_haltBugPending (s : State) (a : Word) : (afterRead s a).haltBugPending = s.haltBugPending := by unfold afterRead; split <;> rfl
@[simp] theorem afterRead_ie (s : State) (a : Word) : (afterRead s a).ie = s.ie := by unfold afterRead; split <;> rfl
@[simp] theorem afterRead_iflag (s : State) (a : Word) : (afterRead s a).iflag = s.iflag := by unfold afterRead; split <;> rfl
@[simp] theorem afterRead_p1Sel (s : State) (a : Word) : (afterRead s a).p1Sel = s.p1Sel := by unfold afterRead; split <;> rfl
@[simp] theorem afterRead_joyPrev (s : State) (a : Word) : (afterRead s a).joyPrev = s.joyPrev := by unfold afterRead; split <;> rfl
@[simp] theorem afterRead_timer (s : State) (a : Word) : (afterRead s a).timer = s.timer := by unfold afterRead; split <;> rfl
@[simp] theorem afterRead_serial (s : State) (a : Word) : (afterRead s a).serial = s.serial := by unfold afterRead; split <;> rfl
@[simp] theorem afterRead_lcd (s : State) (a : Word) : (afterRead s a).lcd = s.lcd := by unfold afterRead; split <;> rfl
@[simp] theorem afterRead_sound (s : State) (a : Word) : (afterRead s a).sound = s.sound := by unfold afterRead; split <;> rfl
@[simp] theorem afterRead_mem (s : State) (a : Word) : (afterRead s a).mem = s.mem := by unfold afterRead; split <;> rfl
@[simp] theorem afterRead_eram (s : State) (a : Word) : (afterRead s a).eram = s.eram := by unfold afterRead; split <;> rfl
@[simp] theorem afterRead_cart (s : State) (a : Word) : (afterRead s a).cart = s.cart := by unfold afterRead; split <;> rfl
@[simp] theorem afterRead_mbc (s : State) (a : Word) : (afterRead s a).mbc = s.mbc := by unfold afterRead; split <;> rfl
@[simp] theorem afterRead_bootOverlay (s : State) (a : Word) : (afterRead s a).bootOverlay = s.bootOverlay := by unfold afterRead; split <;> rfl
@[simp] theorem afterRead_haltBug (s : State) (a : Word) : (afterRead s a).haltBug = s.haltBug := by unfold afterRead; split <;> rfl
@[simp] theorem afterRead_out (s : State) (a : Word) : (afterRead s a).out = s.out := by unfold afterRead; split <;> rfl
@[simp] theorem afterRead_cycles (s : State) (a : Word) : (afterRead s a).cycles = s.cycles := by unfold afterRead; split <;> rfl
@[simp] theorem afterRead_instrAddr (s : State) (a : Word) : (afterRead s a).instrAddr = s.instrAddr := by unfold afterRead; split <;> rfl

/-! ## Registers -/

@[simp] theorem writeFlags_a (s : State) (w : FlagWrite) : (writeFlags s w).regs.a = s.regs.a := rfl
@[simp] theorem writeFlags_b (s : State) (w : FlagWrite) : (writeFlags s w).regs.b = s.regs.b := rfl
@[simp] theorem writeFlags_c (s : State) (w : FlagWrite) : (writeFlags s w).regs.c = s.regs.c := rfl
@[simp] theorem writeFlags_d (s : State) (w : FlagWrite) : (writeFlags s w).regs.d = s.regs.d := rfl
@[simp] theorem writeFlags_e (s : State) (w : FlagWrite) : (writeFlags s w).regs.e = s.regs.e := rfl
@[simp] theorem writeFlags_h (s : State) (w : FlagWrite) : (writeFlags s w).regs.h = s.regs.h := rfl
@[simp] theorem writeFlags_l (s : State) (w : FlagWrite) : (writeFlags s w).regs.l = s.regs.l := rfl
@[simp] theorem writeFlags_sp (s : State) (w : FlagWrite) : (writeFlags s w).regs.sp = s.regs.sp := rfl
@[simp] theorem writeFlags_pc (s : State) (w : FlagWrite) : (writeFlags s w).regs.pc = s.regs.pc := rfl
@[simp] theorem setReg8_sp (s : State) (v : Byte) (r : Reg8) : (setReg8 s v r).regs.sp = s.regs.sp := by cases r <;> rfl
@[simp] theorem setReg8_pc (s : State) (v : Byte) (r : Reg8) : (setReg8 s v r).regs.pc = s.regs.pc := by cases r <;> rfl
@[simp] theorem setReg8_f (s : State) (v : Byte) (r : Reg8) : (setReg8 s v r).regs.f = s.regs.f := by cases r <;> rfl
@[simp] theorem setReg16_a (s : State) (w : Word) (p : Reg16) : (setReg16 s w p).regs.a = s.regs.a := by cases p <;> rfl
@[simp] theorem setReg16_f (s : State) (w : Word) (p : Reg16) : (setReg16 s w p).regs.f = s.regs.f := by cases p <;> rfl
@[simp] theorem setReg16_pc (s : State) (w : Word) (p : Reg16) : (setReg16 s w p).regs.pc = s.regs.pc := by cases p <;> rfl
@[simp] theorem setStackReg_sp (s : State) (w : Word) (q : StackReg) : (setStackReg s w q).regs.sp = s.regs.sp := by cases q <;> rfl
@[simp] theorem setStackReg_pc (s : State) (w : Word) (q : StackReg) : (setStackReg s w q).regs.pc = s.regs.pc := by cases q <;> rfl

/-- A register written reads back the value (R12). -/
@[simp] theorem getReg8_setReg8_same (s : State) (v : Byte) (r : Reg8) : getReg8 (setReg8 s v r) r = v := by
  cases r <;> rfl

/-- A register write leaves the other six data registers alone. -/
theorem getReg8_setReg8_other (s : State) (v : Byte) (r q : Reg8) (h : q ≠ r) :
    getReg8 (setReg8 s v r) q = getReg8 s q := by
  cases r <;> cases q <;> first | rfl | exact absurd rfl h

/-- The halves of a concatenation (R11). -/
@[simp] theorem hiByte_mkWord (h l : Byte) : hiByte (mkWord h l) = h := by
  unfold hiByte mkWord
  exact BitVec.extractLsb'_append_eq_left ..

@[simp] theorem loByte_mkWord (h l : Byte) : loByte (mkWord h l) = l := by
  unfold loByte mkWord
  exact BitVec.extractLsb'_append_eq_right ..

/-- A word is its two halves (R11). -/
@[simp] theorem mkWord_halves (w : Word) : mkWord (hiByte w) (loByte w) = w := by
  unfold hiByte loByte mkWord
  rw [BitVec.extractLsb'_append_extractLsb'_eq_extractLsb' (by omega)]
  simp

/-- A pair written reads back the word (R21). -/
@[simp] theorem getReg16_setReg16 (s : State) (w : Word) (p : Reg16) : getReg16 (setReg16 s w p) p = w := by
  cases p <;> simp [getReg16, setReg16, getHL, setHL, setSP]

@[simp] theorem getHL_setHL (s : State) (w : Word) : getHL (setHL s w) = w := by simp [getHL, setHL]

end Sys2Proof.Machine
end

