-- ==== Sys2Proof/Laws/Bus.lean ====
section
/-! SUPPORT. What a bus write can change: one lemma per field it leaves alone, for each operation it is
made of; then what it does to the storage, the bank registers, the timer, the serial link, the display
and the sound controller. -/

namespace Sys2Proof.Machine

/-! ## Fields no bus write changes -/

@[simp] theorem rtcUpdate_regs (s : State) : (rtcUpdate s).regs = s.regs := rfl
@[simp] theorem cartRamWrite_regs (s : State) (i : Nat) (v : Byte) : (cartRamWrite s i v).regs = s.regs := by
  unfold cartRamWrite; (repeat' split) <;> rfl
@[simp] theorem mbc3Control_regs (s : State) (i : Nat) (v : Byte) : (mbc3Control s i v).regs = s.regs := by
  unfold mbc3Control; (repeat' split) <;> rfl
@[simp] theorem cartControlWrite_regs (s : State) (i : Nat) (v : Byte) : (cartControlWrite s i v).regs = s.regs := by
  unfold cartControlWrite; split <;> simp

@[simp] theorem rtcUpdate_ime (s : State) : (rtcUpdate s).ime = s.ime := rfl
@[simp] theorem cartRamWrite_ime (s : State) (i : Nat) (v : Byte) : (cartRamWrite s i v).ime = s.ime := by
  unfold cartRamWrite; (repeat' split) <;> rfl
@[simp] theorem mbc3Control_ime (s : State) (i : Nat) (v : Byte) : (mbc3Control s i v).ime = s.ime := by
  unfold mbc3Control; (repeat' split) <;> rfl
@[simp] theorem cartControlWrite_ime (s : State) (i : Nat) (v : Byte) : (cartControlWrite s i v).ime = s.ime := by
  unfold cartControlWrite; split <;> simp

@[simp] theorem rtcUpdate_eiDelay (s : State) : (rtcUpdate s).eiDelay = s.eiDelay := rfl
@[simp] theorem cartRamWrite_eiDelay (s : State) (i : Nat) (v : Byte) : (cartRamWrite s i v).eiDelay = s.eiDelay := by
  unfold cartRamWrite; (repeat' split) <;> rfl
@[simp] theorem mbc3Control_eiDelay (s : State) (i : Nat) (v : Byte) : (mbc3Control s i v).eiDelay = s.eiDelay := by
  unfold mbc3Control; (repeat' split) <;> rfl
@[simp] theorem cartControlWrite_eiDelay (s : State) (i : Nat) (v : Byte) : (cartControlWrite s i v).eiDelay = s.eiDelay := by
  unfold cartControlWrite; split <;> simp

@[simp] theorem rtcUpdate_runState (s : State) : (rtcUpdate s).runState = s.runState := rfl
@[simp] theorem cartRamWrite_runState (s : State) (i : Nat) (v : Byte) : (cartRamWrite s i v).runState = s.runState := by
  unfold cartRamWrite; (repeat' split) <;> rfl
@[simp] theorem mbc3Control_runState (s : State) (i : Nat) (v : Byte) : (mbc3Control s i v).runState = s.runState := by
  unfold mbc3Control; (repeat' split) <;> rfl
@[simp] theorem cartControlWrite_runState (s : State) (i : Nat) (v : Byte) : (cartControlWrite s i v).runState = s.runState := by
  unfold cartControlWrite; split <;> simp

@[simp] theorem rtcUpdate_haltBugPending (s : State) : (rtcUpdate s).haltBugPending = s.haltBugPending := rfl
@[simp] theorem cartRamWrite_haltBugPending (s : State) (i : Nat) (v : Byte) : (cartRamWrite s i v).haltBugPending = s.haltBugPending := by
  unfold cartRamWrite; (repeat' split) <;> rfl
@[simp] theorem mbc3Control_haltBugPending (s : State) (i : Nat) (v : Byte) : (mbc3Control s i v).haltBugPending = s.haltBugPending := by
  unfold mbc3Control; (repeat' split) <;> rfl
@[simp] theorem cartControlWrite_haltBugPending (s : State) (i : Nat) (v : Byte) : (cartControlWrite s i v).haltBugPending = s.haltBugPending := by
  unfold cartControlWrite; split <;> simp

@[simp] theorem rtcUpdate_joyPrev (s : State) : (rtcUpdate s).joyPrev = s.joyPrev := rfl
@[simp] theorem cartRamWrite_joyPrev (s : State) (i : Nat) (v : Byte) : (cartRamWrite s i v).joyPrev = s.joyPrev := by
  unfold cartRamWrite; (repeat' split) <;> rfl
@[simp] theorem mbc3Control_joyPrev (s : State) (i : Nat) (v : Byte) : (mbc3Control s i v).joyPrev = s.joyPrev := by
  unfold mbc3Control; (repeat' split) <;> rfl
@[simp] theorem cartControlWrite_joyPrev (s : State) (i : Nat) (v : Byte) : (cartControlWrite s i v).joyPrev = s.joyPrev := by
  unfold cartControlWrite; split <;> simp

@[simp] theorem rtcUpdate_cart (s : State) : (rtcUpdate s).cart = s.cart := rfl
@[simp] theorem cartRamWrite_cart (s : State) (i : Nat) (v : Byte) : (cartRamWrite s i v).cart = s.cart := by
  unfold cartRamWrite; (repeat' split) <;> rfl
@[simp] theorem mbc3Control_cart (s : State) (i : Nat) (v : Byte) : (mbc3Control s i v).cart = s.cart := by
  unfold mbc3Control; (repeat' split) <;> rfl
@[simp] theorem cartControlWrite_cart (s : State) (i : Nat) (v : Byte) : (cartControlWrite s i v).cart = s.cart := by
  unfold cartControlWrite; split <;> simp

@[simp] theorem rtcUpdate_haltBug (s : State) : (rtcUpdate s).haltBug = s.haltBug := rfl
@[simp] theorem cartRamWrite_haltBug (s : State) (i : Nat) (v : Byte) : (cartRamWrite s i v).haltBug = s.haltBug := by
  unfold cartRamWrite; (repeat' split) <;> rfl
@[simp] theorem mbc3Control_haltBug (s : State) (i : Nat) (v : Byte) : (mbc3Control s i v).haltBug = s.haltBug := by
  unfold mbc3Control; (repeat' split) <;> rfl
@[simp] theorem cartControlWrite_haltBug (s : State) (i : Nat) (v : Byte) : (cartControlWrite s i v).haltBug = s.haltBug := by
  unfold cartControlWrite; split <;> simp

@[simp] theorem rtcUpdate_out (s : State) : (rtcUpdate s).out = s.out := rfl
@[simp] theorem cartRamWrite_out (s : State) (i : Nat) (v : Byte) : (cartRamWrite s i v).out = s.out := by
  unfold cartRamWrite; (repeat' split) <;> rfl
@[simp] theorem mbc3Control_out (s : State) (i : Nat) (v : Byte) : (mbc3Control s i v).out = s.out := by
  unfold mbc3Control; (repeat' split) <;> rfl
@[simp] theorem cartControlWrite_out (s : State) (i : Nat) (v : Byte) : (cartControlWrite s i v).out = s.out := by
  unfold cartControlWrite; split <;> simp

@[simp] theorem rtcUpdate_cycles (s : State) : (rtcUpdate s).cycles = s.cycles := rfl
@[simp] theorem cartRamWrite_cycles (s : State) (i : Nat) (v : Byte) : (cartRamWrite s i v).cycles = s.cycles := by
  unfold cartRamWrite; (repeat' split) <;> rfl
@[simp] theorem mbc3Control_cycles (s : State) (i : Nat) (v : Byte) : (mbc3Control s i v).cycles = s.cycles := by
  unfold mbc3Control; (repeat' split) <;> rfl
@[simp] theorem cartControlWrite_cycles (s : State) (i : Nat) (v : Byte) : (cartControlWrite s i v).cycles = s.cycles := by
  unfold cartControlWrite; split <;> simp

@[simp] theorem rtcUpdate_instrAddr (s : State) : (rtcUpdate s).instrAddr = s.instrAddr := rfl
@[simp] theorem cartRamWrite_instrAddr (s : State) (i : Nat) (v : Byte) : (cartRamWrite s i v).instrAddr = s.instrAddr := by
  unfold cartRamWrite; (repeat' split) <;> rfl
@[simp] theorem mbc3Control_instrAddr (s : State) (i : Nat) (v : Byte) : (mbc3Control s i v).instrAddr = s.instrAddr := by
  unfold mbc3Control; (repeat' split) <;> rfl
@[simp] theorem cartControlWrite_instrAddr (s : State) (i : Nat) (v : Byte) : (cartControlWrite s i v).instrAddr = s.instrAddr := by
  unfold cartControlWrite; split <;> simp

@[simp] theorem dmaByte_regs (v : Byte) (s : State) (i : Nat) : (dmaByte v s i).regs = s.regs := by simp [dmaByte]
@[simp] theorem dmaFold_regs (v : Byte) (l : List Nat) (s : State) : (l.foldl (dmaByte v) s).regs = s.regs := by
  induction l generalizing s with
  | nil => rfl
  | cons i l ih => rw [List.foldl_cons, ih, dmaByte_regs]
@[simp] theorem dmaCopy_regs (s : State) (v : Byte) : (dmaCopy s v).regs = s.regs := dmaFold_regs ..

@[simp] theorem dmaByte_ime (v : Byte) (s : State) (i : Nat) : (dmaByte v s i).ime = s.ime := by simp [dmaByte]
@[simp] theorem dmaFold_ime (v : Byte) (l : List Nat) (s : State) : (l.foldl (dmaByte v) s).ime = s.ime := by
  induction l generalizing s with
  | nil => rfl
  | cons i l ih => rw [List.foldl_cons, ih, dmaByte_ime]
@[simp] theorem dmaCopy_ime (s : State) (v : Byte) : (dmaCopy s v).ime = s.ime := dmaFold_ime ..

@[simp] theorem dmaByte_eiDelay (v : Byte) (s : State) (i : Nat) : (dmaByte v s i).eiDelay = s.eiDelay := by simp [dmaByte]
@[simp] theorem dmaFold_eiDelay (v : Byte) (l : List Nat) (s : State) : (l.foldl (dmaByte v) s).eiDelay = s.eiDelay := by
  induction l generalizing s with
  | nil => rfl
  | cons i l ih => rw [List.foldl_cons, ih, dmaByte_eiDelay]
@[simp] theorem dmaCopy_eiDelay (s : State) (v : Byte) : (dmaCopy s v).eiDelay = s.eiDelay := dmaFold_eiDelay ..

@[simp] theorem dmaByte_runState (v : Byte) (s : State) (i : Nat) : (dmaByte v s i).runState = s.runState := by simp [dmaByte]
@[simp] theorem dmaFold_runState (v : Byte) (l : List Nat) (s : State) : (l.foldl (dmaByte v) s).runState = s.runState := by
  induction l generalizing s with
  | nil => rfl
  | cons i l ih => rw [List.foldl_cons, ih, dmaByte_runState]
@[simp] theorem dmaCopy_runState (s : State) (v : Byte) : (dmaCopy s v).runState = s.runState := dmaFold_runState ..

@[simp] theorem dmaByte_haltBugPending (v : Byte) (s : State) (i : Nat) : (dmaByte v s i).haltBugPending = s.haltBugPending := by simp [dmaByte]
@[simp] theorem dmaFold_haltBugPending (v : Byte) (l : List Nat) (s : State) : (l.foldl (dmaByte v) s).haltBugPending = s.haltBugPending := by
  induction l generalizing s with
  | nil => rfl
  | cons i l ih => rw [List.foldl_cons, ih, dmaByte_haltBugPending]
@[simp] theorem dmaCopy_haltBugPending (s : State) (v : Byte) : (dmaCopy s v).haltBugPending = s.haltBugPending := dmaFold_haltBugPending ..

@[simp] theorem dmaByte_joyPrev (v : Byte) (s : State) (i : Nat) : (dmaByte v s i).joyPrev = s.joyPrev := by simp [dmaByte]
@[simp] theorem dmaFold_joyPrev (v : Byte) (l : List Nat) (s : State) : (l.foldl (dmaByte v) s).joyPrev = s.joyPrev := by
  induction l generalizing s with
  | nil => rfl
  | cons i l ih => rw [List.foldl_cons, ih, dmaByte_joyPrev]
@[simp] theorem dmaCopy_joyPrev (s : State) (v : Byte) : (dmaCopy s v).joyPrev = s.joyPrev := dmaFold_joyPrev ..

@[simp] theorem dmaByte_cart (v : Byte) (s : State) (i : Nat) : (dmaByte v s i).cart = s.cart := by simp [dmaByte]
@[simp] theorem dmaFold_cart (v : Byte) (l : List Nat) (s : State) : (l.foldl (dmaByte v) s).cart = s.cart := by
  induction l generalizing s with
  | nil => rfl
  | cons i l ih => rw [List.foldl_cons, ih, dmaByte_cart]
@[simp] theorem dmaCopy_cart (s : State) (v : Byte) : (dmaCopy s v).cart = s.cart := dmaFold_cart ..

@[simp] theorem dmaByte_haltBug (v : Byte) (s : State) (i : Nat) : (dmaByte v s i).haltBug = s.haltBug := by simp [dmaByte]
@[simp] theorem dmaFold_haltBug (v : Byte) (l : List Nat) (s : State) : (l.foldl (dmaByte v) s).haltBug = s.haltBug := by
  induction l generalizing s with
  | nil => rfl
  | cons i l ih => rw [List.foldl_cons, ih, dmaByte_haltBug]
@[simp] theorem dmaCopy_haltBug (s : State) (v : Byte) : (dmaCopy s v).haltBug = s.haltBug := dmaFold_haltBug ..

@[simp] theorem dmaByte_out (v : Byte) (s : State) (i : Nat) : (dmaByte v s i).out = s.out := by simp [dmaByte]
@[simp] theorem dmaFold_out (v : Byte) (l : List Nat) (s : State) : (l.foldl (dmaByte v) s).out = s.out := by
  induction l generalizing s with
  | nil => rfl
  | cons i l ih => rw [List.foldl_cons, ih, dmaByte_out]
@[simp] theorem dmaCopy_out (s : State) (v : Byte) : (dmaCopy s v).out = s.out := dmaFold_out ..

@[simp] theorem dmaByte_cycles (v : Byte) (s : State) (i : Nat) : (dmaByte v s i).cycles = s.cycles := by simp [dmaByte]
@[simp] theorem dmaFold_cycles (v : Byte) (l : List Nat) (s : State) : (l.foldl (dmaByte v) s).cycles = s.cycles := by
  induction l generalizing s with
  | nil => rfl
  | cons i l ih => rw [List.foldl_cons, ih, dmaByte_cycles]
@[simp] theorem dmaCopy_cycles (s : State) (v : Byte) : (dmaCopy s v).cycles = s.cycles := dmaFold_cycles ..

@[simp] theorem dmaByte_instrAddr (v : Byte) (s : State) (i : Nat) : (dmaByte v s i).instrAddr = s.instrAddr := by simp [dmaByte]
@[simp] theorem dmaFold_instrAddr (v : Byte) (l : List Nat) (s : State) : (l.foldl (dmaByte v) s).instrAddr = s.instrAddr := by
  induction l generalizing s with
  | nil => rfl
  | cons i l ih => rw [List.foldl_cons, ih, dmaByte_instrAddr]
@[simp] theorem dmaCopy_instrAddr (s : State) (v : Byte) : (dmaCopy s v).instrAddr = s.instrAddr := dmaFold_instrAddr ..

@[simp] theorem dmaByte_ie (v : Byte) (s : State) (i : Nat) : (dmaByte v s i).ie = s.ie := by simp [dmaByte]
@[simp] theorem dmaFold_ie (v : Byte) (l : List Nat) (s : State) : (l.foldl (dmaByte v) s).ie = s.ie := by
  induction l generalizing s with
  | nil => rfl
  | cons i l ih => rw [List.foldl_cons, ih, dmaByte_ie]
@[simp] theorem dmaCopy_ie (s : State) (v : Byte) : (dmaCopy s v).ie = s.ie := dmaFold_ie ..

@[simp] theorem dmaByte_iflag (v : Byte) (s : State) (i : Nat) : (dmaByte v s i).iflag = s.iflag := by simp [dmaByte]
@[simp] theorem dmaFold_iflag (v : Byte) (l : List Nat) (s : State) : (l.foldl (dmaByte v) s).iflag = s.iflag := by
  induction l generalizing s with
  | nil => rfl
  | cons i l ih => rw [List.foldl_cons, ih, dmaByte_iflag]
@[simp] theorem dmaCopy_iflag (s : State) (v : Byte) : (dmaCopy s v).iflag = s.iflag := dmaFold_iflag ..

@[simp] theorem dmaByte_p1Sel (v : Byte) (s : State) (i : Nat) : (dmaByte v s i).p1Sel = s.p1Sel := by simp [dmaByte]
@[simp] theorem dmaFold_p1Sel (v : Byte) (l : List Nat) (s : State) : (l.foldl (dmaByte v) s).p1Sel = s.p1Sel := by
  induction l generalizing s with
  | nil => rfl
  | cons i l ih => rw [List.foldl_cons, ih, dmaByte_p1Sel]
@[simp] theorem dmaCopy_p1Sel (s : State) (v : Byte) : (dmaCopy s v).p1Sel = s.p1Sel := dmaFold_p1Sel ..

@[simp] theorem dmaByte_timer (v : Byte) (s : State) (i : Nat) : (dmaByte v s i).timer = s.timer := by simp [dmaByte]
@[simp] theorem dmaFold_timer (v : Byte) (l : List Nat) (s : State) : (l.foldl (dmaByte v) s).timer = s.timer := by
  induction l generalizing s with
  | nil => rfl
  | cons i l ih => rw [List.foldl_cons, ih, dmaByte_timer]
@[simp] theorem dmaCopy_timer (s : State) (v : Byte) : (dmaCopy s v).timer = s.timer := dmaFold_timer ..

@[simp] theorem dmaByte_serial (v : Byte) (s : State) (i : Nat) : (dmaByte v s i).serial = s.serial := by simp [dmaByte]
@[simp] theorem dmaFold_serial (v : Byte) (l : List Nat) (s : State) : (l.foldl (dmaByte v) s).serial = s.serial := by
  induction l generalizing s with
  | nil => rfl
  | cons i l ih => rw [List.foldl_cons, ih, dmaByte_serial]
@[simp] theorem dmaCopy_serial (s : State) (v : Byte) : (dmaCopy s v).serial = s.serial := dmaFold_serial ..

@[simp] theorem dmaByte_lcd (v : Byte) (s : State) (i : Nat) : (dmaByte v s i).lcd = s.lcd := by simp [dmaByte]
@[simp] theorem dmaFold_lcd (v : Byte) (l : List Nat) (s : State) : (l.foldl (dmaByte v) s).lcd = s.lcd := by
  induction l generalizing s with
  | nil => rfl
  | cons i l ih => rw [List.foldl_cons, ih, dmaByte_lcd]
@[simp] theorem dmaCopy_lcd (s : State) (v : Byte) : (dmaCopy s v).lcd = s.lcd := dmaFold_lcd ..

@[simp] theorem dmaByte_sound (v : Byte) (s : State) (i : Nat) : (dmaByte v s i).sound = s.sound := by simp [dmaByte]
@[simp] theorem dmaFold_sound (v : Byte) (l : List Nat) (s : State) : (l.foldl (dmaByte v) s).sound = s.sound := by
  induction l generalizing s with
  | nil => rfl
  | cons i l ih => rw [List.foldl_cons, ih, dmaByte_sound]
@[simp] theorem dmaCopy_sound (s : State) (v : Byte) : (dmaCopy s v).sound = s.sound := dmaFold_sound ..

@[simp] theorem dmaByte_eram (v : Byte) (s : State) (i : Nat) : (dmaByte v s i).eram = s.eram := by simp [dmaByte]
@[simp] theorem dmaFold_eram (v : Byte) (l : List Nat) (s : State) : (l.foldl (dmaByte v) s).eram = s.eram := by
  induction l generalizing s with
  | nil => rfl
  | cons i l ih => rw [List.foldl_cons, ih, dmaByte_eram]
@[simp] theorem dmaCopy_eram (s : State) (v : Byte) : (dmaCopy s v).eram = s.eram := dmaFold_eram ..

@[simp] theorem dmaByte_mbc (v : Byte) (s : State) (i : Nat) : (dmaByte v s i).mbc = s.mbc := by simp [dmaByte]
@[simp] theorem dmaFold_mbc (v : Byte) (l : List Nat) (s : State) : (l.foldl (dmaByte v) s).mbc = s.mbc := by
  induction l generalizing s with
  | nil => rfl
  | cons i l ih => rw [List.foldl_cons, ih, dmaByte_mbc]
@[simp] theorem dmaCopy_mbc (s : State) (v : Byte) : (dmaCopy s v).mbc = s.mbc := dmaFold_mbc ..

@[simp] theorem dmaByte_bootOverlay (v : Byte) (s : State) (i : Nat) : (dmaByte v s i).bootOverlay = s.bootOverlay := by simp [dmaByte]
@[simp] theorem dmaFold_bootOverlay (v : Byte) (l : List Nat) (s : State) : (l.foldl (dmaByte v) s).bootOverlay = s.bootOverlay := by
  induction l generalizing s with
  | nil => rfl
  | cons i l ih => rw [List.foldl_cons, ih, dmaByte_bootOverlay]
@[simp] theorem dmaCopy_bootOverlay (s : State) (v : Byte) : (dmaCopy s v).bootOverlay = s.bootOverlay := dmaFold_bootOverlay ..

@[simp] theorem regWrite_regs (s : State) (v : Byte) (r : IoReg) : (regWrite s v r).regs = s.regs := by
  cases r <;> simp only [regWrite] <;> first | rfl | (split <;> rfl) | simp
@[simp] theorem ioWrite_regs (s : State) (n : Nat) (v : Byte) : (ioWrite s n v).regs = s.regs := by
  unfold ioWrite; (repeat' split) <;> simp
@[simp] theorem memWrite_regs (s : State) (a : Word) (v : Byte) : (memWrite s a v).regs = s.regs := by
  unfold memWrite; dsimp only; (repeat' split) <;> simp

@[simp] theorem regWrite_ime (s : State) (v : Byte) (r : IoReg) : (regWrite s v r).ime = s.ime := by
  cases r <;> simp only [regWrite] <;> first | rfl | (split <;> rfl) | simp
@[simp] theorem ioWrite_ime (s : State) (n : Nat) (v : Byte) : (ioWrite s n v).ime = s.ime := by
  unfold ioWrite; (repeat' split) <;> simp
@[simp] theorem memWrite_ime (s : State) (a : Word) (v : Byte) : (memWrite s a v).ime = s.ime := by
  unfold memWrite; dsimp only; (repeat' split) <;> simp
@[simp] theorem push16_ime (s : State) (w : Word) : (push16 s w).ime = s.ime := by simp [push16]

@[simp] theorem regWrite_eiDelay (s : State) (v : Byte) (r : IoReg) : (regWrite s v r).eiDelay = s.eiDelay := by
  cases r <;> simp only [regWrite] <;> first | rfl | (split <;> rfl) | simp
@[simp] theorem ioWrite_eiDelay (s : State) (n : Nat) (v : Byte) : (ioWrite s n v).eiDelay = s.eiDelay := by
  unfold ioWrite; (repeat' split) <;> simp
@[simp] theorem memWrite_eiDelay (s : State) (a : Word) (v : Byte) : (memWrite s a v).eiDelay = s.eiDelay := by
  unfold memWrite; dsimp only; (repeat' split) <;> simp
@[simp] theorem push16_eiDelay (s : State) (w : Word) : (push16 s w).eiDelay = s.eiDelay := by simp [push16]

@[simp] theorem regWrite_runState (s : State) (v : Byte) (r : IoReg) : (regWrite s v r).runState = s.runState := by
  cases r <;> simp only [regWrite] <;> first | rfl | (split <;> rfl) | simp
@[simp] theorem ioWrite_runState (s : State) (n : Nat) (v : Byte) : (ioWrite s n v).runState = s.runState := by
  unfold ioWrite; (repeat' split) <;> simp
@[simp] theorem memWrite_runState (s : State) (a : Word) (v : Byte) : (memWrite s a v).runState = s.runState := by
  unfold memWrite; dsimp only; (repeat' split) <;> simp
@[simp] theorem push16_runState (s : State) (w : Word) : (push16 s w).runState = s.runState := by simp [push16]

@[simp] theorem regWrite_haltBugPending (s : State) (v : Byte) (r : IoReg) : (regWrite s v r).haltBugPending = s.haltBugPending := by
  cases r <;> simp only [regWrite] <;> first | rfl | (split <;> rfl) | simp
@[simp] theorem ioWrite_haltBugPending (s : State) (n : Nat) (v : Byte) : (ioWrite s n v).haltBugPending = s.haltBugPending := by
  unfold ioWrite; (repeat' split) <;> simp
@[simp] theorem memWrite_haltBugPending (s : State) (a : Word) (v : Byte) : (memWrite s a v).haltBugPending = s.haltBugPending := by
  unfold memWrite; dsimp only; (repeat' split) <;> simp
@[simp] theorem push16_haltBugPending (s : State) (w : Word) : (push16 s w).haltBugPending = s.haltBugPending := by simp [push16]

@[simp] theorem regWrite_joyPrev (s : State) (v : Byte) (r : IoReg) : (regWrite s v r).joyPrev = s.joyPrev := by
  cases r <;> simp only [regWrite] <;> first | rfl | (split <;> rfl) | simp
@[simp] theorem ioWrite_joyPrev (s : State) (n : Nat) (v : Byte) : (ioWrite s n v).joyPrev = s.joyPrev := by
  unfold ioWrite; (repeat' split) <;> simp
@[simp] theorem memWrite_joyPrev (s : State) (a : Word) (v : Byte) : (memWrite s a v).joyPrev = s.joyPrev := by
  unfold memWrite; dsimp only; (repeat' split) <;> simp
@[simp] theorem push16_joyPrev (s : State) (w : Word) : (push16 s w).joyPrev = s.joyPrev := by simp [push16]

@[simp] theorem regWrite_cart (s : State) (v : Byte) (r : IoReg) : (regWrite s v r).cart = s.cart := by
  cases r <;> simp only [regWrite] <;> first | rfl | (split <;> rfl) | simp
@[simp] theorem ioWrite_cart (s : State) (n : Nat) (v : Byte) : (ioWrite s n v).cart = s.cart := by
  unfold ioWrite; (repeat' split) <;> simp
@[simp] theorem memWrite_cart (s : State) (a : Word) (v : Byte) : (memWrite s a v).cart = s.cart := by
  unfold memWrite; dsimp only; (repeat' split) <;> simp
@[simp] theorem push16_cart (s : State) (w : Word) : (push16 s w).cart = s.cart := by simp [push16]

@[simp] theorem regWrite_haltBug (s : State) (v : Byte) (r : IoReg) : (regWrite s v r).haltBug = s.haltBug := by
  cases r <;> simp only [regWrite] <;> first | rfl | (split <;> rfl) | simp
@[simp] theorem ioWrite_haltBug (s : State) (n : Nat) (v : Byte) : (ioWrite s n v).haltBug = s.haltBug := by
  unfold ioWrite; (repeat' split) <;> simp
@[simp] theorem memWrite_haltBug (s : State) (a : Word) (v : Byte) : (memWrite s a v).haltBug = s.haltBug := by
  unfold memWrite; dsimp only; (repeat' split) <;> simp
@[simp] theorem push16_haltBug (s : State) (w : Word) : (push16 s w).haltBug = s.haltBug := by simp [push16]

@[simp] theorem regWrite_out (s : State) (v : Byte) (r : IoReg) : (regWrite s v r).out = s.out := by
  cases r <;> simp only [regWrite] <;> first | rfl | (split <;> rfl) | simp
@[simp] theorem ioWrite_out (s : State) (n : Nat) (v : Byte) : (ioWrite s n v).out = s.out := by
  unfold ioWrite; (repeat' split) <;> simp
@[simp] theorem memWrite_out (s : State) (a : Word) (v : Byte) : (memWrite s a v).out = s.out := by
  unfold memWrite; dsimp only; (repeat' split) <;> simp
@[simp] theorem push16_out (s : State) (w : Word) : (push16 s w).out = s.out := by simp [push16]

@[simp] theorem regWrite_cycles (s : State) (v : Byte) (r : IoReg) : (regWrite s v r).cycles = s.cycles := by
  cases r <;> simp only [regWrite] <;> first | rfl | (split <;> rfl) | simp
@[simp] theorem ioWrite_cycles (s : State) (n : Nat) (v : Byte) : (ioWrite s n v).cycles = s.cycles := by
  unfold ioWrite; (repeat' split) <;> simp
@[simp] theorem memWrite_cycles (s : State) (a : Word) (v : Byte) : (memWrite s a v).cycles = s.cycles := by
  unfold memWrite; dsimp only; (repeat' split) <;> simp
@[simp] theorem push16_cycles (s : State) (w : Word) : (push16 s w).cycles = s.cycles := by simp [push16]

@[simp] theorem regWrite_instrAddr (s : State) (v : Byte) (r : IoReg) : (regWrite s v r).instrAddr = s.instrAddr := by
  cases r <;> simp only [regWrite] <;> first | rfl | (split <;> rfl) | simp
@[simp] theorem ioWrite_instrAddr (s : State) (n : Nat) (v : Byte) : (ioWrite s n v).instrAddr = s.instrAddr := by
  unfold ioWrite; (repeat' split) <;> simp
@[simp] theorem memWrite_instrAddr (s : State) (a : Word) (v : Byte) : (memWrite s a v).instrAddr = s.instrAddr := by
  unfold memWrite; dsimp only; (repeat' split) <;> simp
@[simp] theorem push16_instrAddr (s : State) (w : Word) : (push16 s w).instrAddr = s.instrAddr := by simp [push16]

end Sys2Proof.Machine
end

