-- ==== Sys2Proof/Laws/Ops.lean ====
section
/-! SUPPORT. What the shared operations of Machine/Ops.lean do, said once: bus reads beside register writes,
the stack primitives, instruction fetch. -/

namespace Sys2Proof.Machine

/-! ## Bus reads do not look at the registers -/

@[simp] theorem memRead_setA (s : State) (v : Byte) (a : Word) : memRead (setA s v) a = memRead s a := rfl
@[simp] theorem memRead_setSP (s : State) (w a : Word) : memRead (setSP s w) a = memRead s a := rfl
@[simp] theorem memRead_setPC (s : State) (w a : Word) : memRead (setPC s w) a = memRead s a := rfl
@[simp] theorem memRead_setHL (s : State) (w a : Word) : memRead (setHL s w) a = memRead s a := rfl

@[simp] theorem afterRead_setSP (s : State) (w a : Word) : afterRead (setSP s w) a = setSP (afterRead s a) w := by
  unfold afterRead; split <;> rfl
@[simp] theorem afterRead_setPC (s : State) (w a : Word) : afterRead (setPC s w) a = setPC (afterRead s a) w := by
  unfold afterRead; split <;> rfl

/-- A bus read takes a BUTTONS answer at P1 only (R103, R481). -/
theorem afterRead_of_ne {a : Word} (h : a ≠ 0xFF00#16) (s : State) : afterRead s a = s := by simp [afterRead, h]

/-! ## The stack -/

@[simp] theorem setSP_setSP (s : State) (v w : Word) : setSP (setSP s v) w = setSP s w := rfl

/-- `Pop16()` (R221): the word read at SP and SP + 1, and SP two higher. -/
theorem pop16_eq (s : State) :
    pop16 s = (mkWord (memRead (afterRead s s.regs.sp) (s.regs.sp + 1#16)) (memRead s s.regs.sp),
      setSP (afterRead (afterRead s s.regs.sp) (s.regs.sp + 1#16)) (s.regs.sp + 2#16)) := by
  have h : s.regs.sp + 1#16 + 1#16 = s.regs.sp + 2#16 := by bv_omega
  simp [pop16, busRead, h]

/-- `Push16(v)` (R220) as two bus writes at SP - 1 and SP - 2. -/
theorem push16_eq (s : State) (v : Word) :
    push16 s v = memWrite (setSP (memWrite (setSP s (s.regs.sp - 1#16)) (s.regs.sp - 1#16) (hiByte v)) (s.regs.sp - 2#16))
      (s.regs.sp - 2#16) (loByte v) := by
  have h : s.regs.sp - 1#16 - 1#16 = s.regs.sp - 2#16 := by bv_omega
  simp [push16, h]

/-! ## RAM -/

/-- The RAM windows of the bus, each with its cell and what may block it (R105, R112, R113). -/
theorem ramCell_cases {a : Word} {k : Nat} (h : ramCell a = some k) :
    (0x8000 ≤ a.toNat ∧ a.toNat ≤ 0x9FFF ∧ k = a.toNat) ∨ (0xC000 ≤ a.toNat ∧ a.toNat ≤ 0xDFFF ∧ k = a.toNat) ∨
      (0xE000 ≤ a.toNat ∧ a.toNat ≤ 0xFDFF ∧ k = a.toNat - 0x2000) ∨
      (0xFE00 ≤ a.toNat ∧ a.toNat ≤ 0xFE9F ∧ k = a.toNat) ∨ (0xFF80 ≤ a.toNat ∧ a.toNat ≤ 0xFFFE ∧ k = a.toNat) := by
  simp only [ramCell] at h
  grind

/-- A bus write to RAM that the display does not own changes one cell and nothing else (R111, R112, R113). -/
theorem memWrite_ram {s : State} {a : Word} {k : Nat} (hk : ramCell a = some k) (hb : blockedAt s a = false)
    (v : Byte) : memWrite s a v = { s with mem := Memory.write s.mem k v } := by
  simp only [blockedAt] at hb
  simp only [memWrite]
  have := ramCell_cases hk
  grind

/-- A bus read of RAM: the cell, or 0xFF while the display owns the address (R110, R112, R113). -/
theorem memRead_ram {s : State} {a : Word} {k : Nat} (hk : ramCell a = some k) :
    memRead s a = if blockedAt s a = true then 0xFF#8 else Memory.read s.mem k := by
  simp only [blockedAt, memRead, readAt]
  have := ramCell_cases hk
  grind

/-- RAM cells are no wave RAM. -/
theorem ramCell_not_wave {a : Word} {k : Nat} (hk : ramCell a = some k) : isWaveRam k = false := by
  have := ramCell_cases hk
  simp only [isWaveRam, Bool.and_eq_false_iff, decide_eq_false_iff_not]
  omega

/-- An I/O read looks at `mem` in wave RAM only. -/
theorem ioRead_write_other {s : State} (hm : Memory.wf s.mem) {k : Nat} (hk : isWaveRam k = false) (v : Byte) (n : Nat) :
    ioRead { s with mem := Memory.write s.mem k v } n = ioRead s n := by
  unfold ioRead
  cases ioRegAt n with
  | some r => cases r <;> rfl
  | none =>
    simp only
    split
    · rw [Memory.read_write_other hm]; rintro rfl; simp_all
    · rfl

/-- The display's ownership does not depend on what memory holds. -/
@[simp] theorem blockedAt_withMem (s : State) (m : Memory) (b : Word) :
    blockedAt { s with mem := m } b = blockedAt s b := rfl

/-- Two RAM addresses with one cell are blocked together. -/
theorem blockedAt_of_cell {s : State} {a b : Word} {k : Nat} (ha : ramCell a = some k) (hb : ramCell b = some k) :
    blockedAt s a = blockedAt s b := by
  have h1 := ramCell_cases ha
  have h2 := ramCell_cases hb
  simp only [blockedAt]
  grind

/-- The store law of RAM: after a write to RAM that the display does not own, the address and its echo read as the byte
written and every other address reads as before (R110 to R113). -/
theorem memRead_memWrite_ram {s : State} (hm : Memory.wf s.mem) {a : Word} {k : Nat} (hk : ramCell a = some k)
    (hb : blockedAt s a = false) (v : Byte) (b : Word) :
    memRead (memWrite s a v) b = if ramCell b = some k then v else memRead s b := by
  rw [memWrite_ram hk hb]
  split
  · rename_i h
    rw [memRead_ram h, blockedAt_withMem, ← blockedAt_of_cell hk h, hb]
    simp [Memory.read_write_same hm]
  · rename_i h
    cases hc : ramCell b with
    | some j =>
      have hne : j ≠ k := by rintro rfl; exact h hc
      rw [memRead_ram hc, memRead_ram hc, blockedAt_withMem]
      simp only [Memory.read_write_other hm v hne]
    | none =>
      simp only [ramCell] at hc
      simp only [memRead, readAt]
      rw [ioRead_write_other hm (ramCell_not_wave hk)]
      have e1 : cartRamRead { s with mem := Memory.write s.mem k v } (b.toNat - 0xA000) = cartRamRead s (b.toNat - 0xA000) := rfl
      rw [e1]
      grind

@[simp] theorem blockedAt_setSP (s : State) (w b : Word) : blockedAt (setSP s w) b = blockedAt s b := rfl

/-- Adjacent RAM addresses have different cells. -/
theorem ramCell_adjacent (w : Word) {j k : Nat} (h1 : ramCell (w - 1#16) = some k) (h2 : ramCell (w - 2#16) = some j) :
    j ≠ k := by
  have a1 := ramCell_cases h1
  have a2 := ramCell_cases h2
  have : (w - 1#16).toNat = (w - 2#16).toNat + 1 ∨ (w - 1#16).toNat = 0 := by bv_omega
  omega

theorem storable_iff {s : State} {a : Word} (h : storable s a = true) :
    ∃ k, ramCell a = some k ∧ blockedAt s a = false := by
  simp only [storable, Bool.and_eq_true, Option.isSome_iff_exists, Bool.not_eq_true'] at h
  obtain ⟨⟨k, hk⟩, hb⟩ := h
  exact ⟨k, hk, hb⟩

/-- A push into RAM that the display does not own (R220). -/
theorem push16_ram {s : State} {j k : Nat} (hk : ramCell (s.regs.sp - 1#16) = some k)
    (kb : blockedAt s (s.regs.sp - 1#16) = false) (hj : ramCell (s.regs.sp - 2#16) = some j)
    (jb : blockedAt s (s.regs.sp - 2#16) = false) (v : Word) :
    push16 s v = { s with
      regs := { s.regs with sp := s.regs.sp - 2#16 }
      mem := Memory.write (Memory.write s.mem k (hiByte v)) j (loByte v) } := by
  rw [push16_eq, memWrite_ram (s := setSP s (s.regs.sp - 1#16)) hk kb,
    memWrite_ram (s := setSP { setSP s (s.regs.sp - 1#16) with mem := _ } (s.regs.sp - 2#16)) hj jb]
  rfl

end Sys2Proof.Machine
end

