-- ==== Sys2Proof/Laws/Clock.lean ====
section
/-! SUPPORT. The MBC3 clock stays within the register fields of R147 (`ClockWf`) through power-on, every tick, update,
latch and bus write. -/

namespace Sys2Proof.Machine

/-! ## One clock value -/

theorem rtcMasked_wf (t : Rtc) : ClockFieldsWf (rtcMasked t) := by
  have mask : ∀ (v : Byte) (k : Nat), (v &&& BitVec.ofNat 8 k).toNat ≤ (BitVec.ofNat 8 k).toNat := fun v k => by
    rw [BitVec.toNat_and]; exact Nat.and_le_right
  refine ⟨?_, ?_, ?_, ?_⟩
  · exact Nat.lt_of_le_of_lt (mask t.s 0x3F) (by decide)
  · exact Nat.lt_of_le_of_lt (mask t.m 0x3F) (by decide)
  · exact Nat.lt_of_le_of_lt (mask t.h 0x1F) (by decide)
  · simp [rtcMasked, BitVec.and_assoc]

/-- Within the fields the mask changes nothing: the two ways to say R147's widths agree. -/
theorem rtcMasked_eq_self_iff (t : Rtc) : rtcMasked t = t ↔ ClockFieldsWf t := by
  refine ⟨fun h => h ▸ rtcMasked_wf t, fun h => ?_⟩
  have ms : ∀ v : Byte, v.toNat < 64 → v &&& 0x3F#8 = v := by decide
  have mh : ∀ v : Byte, v.toNat < 32 → v &&& 0x1F#8 = v := by decide
  have md : ∀ v : Byte, v &&& 0x3E#8 = 0#8 → v &&& 0xC1#8 = v := by decide
  rcases t with ⟨s, m, hh, dl, dh⟩
  simp [rtcMasked, ms _ h.s, ms _ h.m, mh _ h.h, md _ h.dh]

theorem initialClock_wf (save : Option SavedClock) : ClockFieldsWf (initialClock save) := by
  cases save with
  | none => exact ⟨by decide, by decide, by decide, by decide⟩
  | some c => exact rtcMasked_wf c.regs

/-- A clock register write keeps the fields (R146). -/
theorem ClockFieldsWf.rtcSet {t : Rtc} (h : ClockFieldsWf t) (v : Byte) (r : RtcReg) : ClockFieldsWf (rtcSet t v r) := by
  have w := rtcMasked_wf ⟨v, v, v, v, v⟩
  cases r
  · exact ⟨w.s, h.m, h.h, h.dh⟩
  · exact ⟨h.s, w.m, h.h, h.dh⟩
  · exact ⟨h.s, h.m, w.h, h.dh⟩
  · exact ⟨h.s, h.m, h.h, h.dh⟩
  · exact ⟨h.s, h.m, h.h, w.dh⟩

/-- A second tick keeps the fields (R148). -/
theorem ClockFieldsWf.rtcSecondTick {t : Rtc} (h : ClockFieldsWf t) : ClockFieldsWf (rtcSecondTick t) := by
  have day : ∀ {t : Rtc}, ClockFieldsWf t → ClockFieldsWf (rtcDayTick t) := fun {t} h => by
    have set : ∀ v : Byte, v &&& 0x3E#8 = 0#8 → ((v &&& 0xFE#8) ||| 0x80#8) &&& 0x3E#8 = 0#8
        ∧ (v ||| 0x01#8) &&& 0x3E#8 = 0#8 := by decide
    unfold rtcDayTick
    split
    · split
      exacts [⟨h.s, h.m, h.h, (set _ h.dh).1⟩, ⟨h.s, h.m, h.h, (set _ h.dh).2⟩]
    · exact ⟨h.s, h.m, h.h, h.dh⟩
  have hour : ∀ {t : Rtc}, ClockFieldsWf t → ClockFieldsWf (rtcHourTick t) := fun {t} h => by
    have w := rtcMasked_wf ⟨t.s, t.m, t.h + 1#8, t.dl, t.dh⟩
    unfold rtcHourTick
    split
    exacts [day ⟨h.s, h.m, by simp, h.dh⟩, ⟨h.s, h.m, w.h, h.dh⟩]
  have minute : ∀ {t : Rtc}, ClockFieldsWf t → ClockFieldsWf (rtcMinuteTick t) := fun {t} h => by
    have w := rtcMasked_wf ⟨t.s, t.m + 1#8, t.h, t.dl, t.dh⟩
    unfold rtcMinuteTick
    split
    exacts [hour ⟨h.s, by simp, h.h, h.dh⟩, ⟨h.s, w.m, h.h, h.dh⟩]
  have w := rtcMasked_wf ⟨t.s + 1#8, t.m, t.h, t.dl, t.dh⟩
  unfold Machine.rtcSecondTick
  split
  exacts [minute ⟨by simp, h.m, h.h, h.dh⟩, ⟨w.s, h.m, h.h, h.dh⟩]

theorem ClockFieldsWf.rtcTicks {t : Rtc} (h : ClockFieldsWf t) (n : Nat) : ClockFieldsWf (rtcTicks n t) := by
  induction n generalizing t with
  | zero => exact h
  | succ n ih => exact ih h.rtcSecondTick

/-! ## The state -/

/-- What `ClockWf` looks at: the controller's registers. -/
theorem ClockWf.congr {s t : State} (h : ClockWf s) (hm : t.mbc = s.mbc) : ClockWf t :=
  ⟨hm ▸ h.live, hm ▸ h.latched⟩

theorem ClockWf.rtcUpdate {s : State} (h : ClockWf s) : ClockWf (rtcUpdate s) := by
  refine ⟨?_, h.latched⟩
  simp only [Machine.rtcUpdate]
  split
  exacts [h.live, h.live.rtcTicks _]

/-- A write through the external RAM window keeps the clock's fields. -/
theorem ClockWf.cartRamWrite {s : State} (h : ClockWf s) (off : Nat) (v : Byte) : ClockWf (cartRamWrite s off v) := by
  unfold Machine.cartRamWrite
  split
  · exact h.congr rfl
  · split
    · exact ⟨h.rtcUpdate.live.rtcSet v _, h.rtcUpdate.latched⟩
    · exact h

/-- A control write, the latch among them, keeps the clock's fields. -/
theorem ClockWf.cartControlWrite {s : State} (h : ClockWf s) (n : Nat) (v : Byte) : ClockWf (cartControlWrite s n v) := by
  unfold Machine.cartControlWrite
  split
  · exact h
  · unfold mbc1Control
    repeat' split
    all_goals exact ⟨h.live, h.latched⟩
  · unfold mbc2Control
    repeat' split
    all_goals exact ⟨h.live, h.latched⟩
  · unfold mbc3Control
    split
    · exact ⟨h.live, h.latched⟩
    · split
      · exact ⟨h.live, h.latched⟩
      · split
        · exact ⟨h.live, h.latched⟩
        · split
          exacts [⟨h.rtcUpdate.live, h.rtcUpdate.live⟩, ⟨h.live, h.latched⟩]

end Sys2Proof.Machine
end

