-- ==== Sys2Proof/Laws/Shape.lean ====
section
/-! SUPPORT. Every arm of `exec` as one of the shared operations, with the addresses it stores to, its
cost, and whether it is legal. A property of all instructions is then a case analysis over the
operations, not over the 511 arms. -/

namespace Sys2Proof.Machine

/-- The address an operand written in memory is stored at. -/
def opndAddrs (s : State) : Opnd8 → List Word
  | .reg _ => []
  | .mHL => [getHL s]

/-- The facts about an instruction that its operation carries: its stores, its cost, that it is legal
and changes no control state. -/
structure Facts (s : State) (i : Instr) (addrs : List Word) (cost : Nat) : Prop where
  stores : storeAddrs s i = addrs
  costs : costOf s i = cost
  legal : i.wellFormed = true
  plain : controlInstr i = false

/-- The facts, from the opcode byte. -/
theorem Facts.of {s : State} {i : Instr} {addrs : List Word} {cost : Nat} (op : Byte) (ho : i.opcode = op)
    (hs : storeAddrs s i = addrs) (hc : costOfBytes s op ((encode i).getD 1 0#8) = cost)
    (hl : illegalOpcodes.contains op = false) (hp : controlInstr i = false) : Facts s i addrs cost :=
  ⟨hs, by rw [costOf, ho]; exact hc, by rw [Instr.wellFormed, ho, hl]; rfl, hp⟩

/-- The facts about one of the instructions that change control state. -/
structure ControlFacts (s : State) (i : Instr) (cost : Nat) (legal : Bool) : Prop where
  stores : storeAddrs s i = []
  costs : costOf s i = cost
  legal : i.wellFormed = legal

/-- The answer of `exec i s`, as a shared operation. -/
inductive Shape (s : State) (i : Instr) : Result → Prop where
  | loadReg (d : Reg8) (o : Opnd8) (h : Facts s i ([]) (opndCost 4 8 o)) : Shape s i (loadReg d o s)
  | loadImm (o : Opnd8) (v : Byte) (h : Facts s i (opndAddrs s o) (opndCost 8 12 o)) : Shape s i (loadImm o v s)
  | storeReg (r : Reg8) (h : Facts s i ([getHL s]) (8)) : Shape s i (storeReg r s)
  | loadA (a : Word) (n : Nat) (h : Facts s i ([]) (n)) : Shape s i (loadA a n s)
  | storeA (a : Word) (n : Nat) (h : Facts s i ([a]) (n)) : Shape s i (storeA a n s)
  | loadAStep (d : Word) (h : Facts s i ([]) (8)) : Shape s i (loadAStep d s)
  | storeAStep (d : Word) (h : Facts s i ([getHL s]) (8)) : Shape s i (storeAStep d s)
  | loadPair (p : Reg16) (w : Word) (h : Facts s i ([]) (12)) : Shape s i (loadPair p w s)
  | storeSP (a : Word) (h : Facts s i ([a, a + 1#16]) (20)) : Shape s i (storeSP a s)
  | loadSPFromHL (h : Facts s i ([]) (8)) : Shape s i (loadSPFromHL s)
  | loadHLFromSP (e : Byte) (h : Facts s i ([]) (12)) : Shape s i (loadHLFromSP e s)
  | pushPair (q : StackReg) (h : Facts s i (pushAddrs s) (16)) : Shape s i (pushPair q s)
  | popPair (q : StackReg) (h : Facts s i ([]) (12)) : Shape s i (popPair q s)
  | accumulate (op : AluOp) (b : Byte) (h : Facts s i ([]) (8)) : Shape s i (accumulate op b 8 s)
  | accumulateOpnd (op : AluOp) (o : Opnd8) (h : Facts s i ([]) (opndCost 4 8 o)) : Shape s i (accumulateOpnd op o s)
  | incOpnd (o : Opnd8) (h : Facts s i (opndAddrs s o) (opndCost 4 12 o)) : Shape s i (incOpnd o s)
  | decOpnd (o : Opnd8) (h : Facts s i (opndAddrs s o) (opndCost 4 12 o)) : Shape s i (decOpnd o s)
  | decimalAdjust (h : Facts s i ([]) (4)) : Shape s i (decimalAdjust s)
  | complementA (h : Facts s i ([]) (4)) : Shape s i (complementA s)
  | setCarry (h : Facts s i ([]) (4)) : Shape s i (setCarry s)
  | complementCarry (h : Facts s i ([]) (4)) : Shape s i (complementCarry s)
  | addHL (p : Reg16) (h : Facts s i ([]) (8)) : Shape s i (addHL p s)
  | incPair (p : Reg16) (h : Facts s i ([]) (8)) : Shape s i (incPair p s)
  | decPair (p : Reg16) (h : Facts s i ([]) (8)) : Shape s i (decPair p s)
  | addSP (e : Byte) (h : Facts s i ([]) (16)) : Shape s i (addSP e s)
  | rotateA (op : ShiftOp) (h : Facts s i ([]) (4)) : Shape s i (rotateA op s)
  | shiftOpnd (op : ShiftOp) (o : Opnd8) (h : Facts s i (opndAddrs s o) (opndCost 8 16 o)) : Shape s i (shiftOpnd op o s)
  | bitOpnd (b : Fin 8) (o : Opnd8) (h : Facts s i ([]) (opndCost 8 12 o)) : Shape s i (bitOpnd b o s)
  | resOpnd (b : Fin 8) (o : Opnd8) (h : Facts s i (opndAddrs s o) (opndCost 8 16 o)) : Shape s i (resOpnd b o s)
  | setOpnd (b : Fin 8) (o : Opnd8) (h : Facts s i (opndAddrs s o) (opndCost 8 16 o)) : Shape s i (setOpnd b o s)
  | jump (a : Word) (n : Nat) (h : Facts s i ([]) (n)) : Shape s i (jump a n s)
  | jumpIf (c : Cond) (a : Word) (h : Facts s i ([]) (if condHolds s c = true then 16 else 12)) : Shape s i (jumpIf c a s)
  | jumpRelativeIf (c : Cond) (e : Byte) (h : Facts s i ([]) (if condHolds s c = true then 12 else 8)) : Shape s i (jumpRelativeIf c e s)
  | call (a : Word) (n : Nat) (h : Facts s i (pushAddrs s) (n)) : Shape s i (call a n s)
  | callIf (c : Cond) (a : Word) (h : Facts s i (if condHolds s c = true then pushAddrs s else []) (if condHolds s c = true then 24 else 12)) : Shape s i (callIf c a s)
  | ret (n : Nat) (h : Facts s i ([]) (n)) : Shape s i (ret n s)
  | retIf (c : Cond) (h : Facts s i ([]) (if condHolds s c = true then 20 else 8)) : Shape s i (retIf c s)
  | nop (h : Facts s i [] 4) : Shape s i (done 4 s)
  | reti (hi : i = .reti) (h : ControlFacts s i 16 true) : Shape s i (done 16 (returnFromInterrupt s))
  | halt (hi : i = .halt) (h : ControlFacts s i 4 true) : Shape s i (done 4 (halt s))
  | stop (n : Byte) (hi : i = .stop n) (h : ControlFacts s i 4 true) : Shape s i (done 4 (stop s))
  | di (hi : i = .di) (h : ControlFacts s i 4 true) : Shape s i (done 4 (disableInterrupts s))
  | ei (hi : i = .ei) (h : ControlFacts s i 4 true) : Shape s i (done 4 (enableInterrupts s))
  | illegal (op : Byte) (hi : encode i = [op]) (hm : op ∈ illegalOpcodes) (h : ControlFacts s i 0 false) :
    Shape s i (.next (raiseIllegal op s))

/-- Every arm of `exec` is one of the shared operations. -/
theorem exec_shape (s : State) (i : Instr) : Shape s i (exec i s) := by
  cases i with
  | nop => exact .nop (.of 0x00#8 rfl rfl rfl rfl rfl)
  | ld_BC_d16 d16 => exact .loadPair .BC d16 (.of 0x01#8 rfl rfl rfl rfl rfl)
  | ld_mBC_A => exact .storeA (getReg16 s .BC) 8 (.of 0x02#8 rfl rfl rfl rfl rfl)
  | inc_BC => exact .incPair .BC (.of 0x03#8 rfl rfl rfl rfl rfl)
  | inc_B => exact .incOpnd (.reg .B) (.of 0x04#8 rfl rfl rfl rfl rfl)
  | dec_B => exact .decOpnd (.reg .B) (.of 0x05#8 rfl rfl rfl rfl rfl)
  | ld_B_d8 d8 => exact .loadImm (.reg .B) d8 (.of 0x06#8 rfl rfl rfl rfl rfl)
  | rlca => exact .rotateA .rlc (.of 0x07#8 rfl rfl rfl rfl rfl)
  | ld_mA16_SP a16 => exact .storeSP a16 (.of 0x08#8 rfl rfl rfl rfl rfl)
  | add_HL_BC => exact .addHL .BC (.of 0x09#8 rfl rfl rfl rfl rfl)
  | ld_A_mBC => exact .loadA (getReg16 s .BC) 8 (.of 0x0A#8 rfl rfl rfl rfl rfl)
  | dec_BC => exact .decPair .BC (.of 0x0B#8 rfl rfl rfl rfl rfl)
  | inc_C => exact .incOpnd (.reg .C) (.of 0x0C#8 rfl rfl rfl rfl rfl)
  | dec_C => exact .decOpnd (.reg .C) (.of 0x0D#8 rfl rfl rfl rfl rfl)
  | ld_C_d8 d8 => exact .loadImm (.reg .C) d8 (.of 0x0E#8 rfl rfl rfl rfl rfl)
  | rrca => exact .rotateA .rrc (.of 0x0F#8 rfl rfl rfl rfl rfl)
  | stop ignored => exact .stop ignored rfl ⟨rfl, by rw [costOf, show (Instr.stop ignored).opcode = 0x10#8 from rfl]; rfl,
      by rw [Instr.wellFormed, show (Instr.stop ignored).opcode = 0x10#8 from rfl]; rfl⟩
  | ld_DE_d16 d16 => exact .loadPair .DE d16 (.of 0x11#8 rfl rfl rfl rfl rfl)
  | ld_mDE_A => exact .storeA (getReg16 s .DE) 8 (.of 0x12#8 rfl rfl rfl rfl rfl)
  | inc_DE => exact .incPair .DE (.of 0x13#8 rfl rfl rfl rfl rfl)
  | inc_D => exact .incOpnd (.reg .D) (.of 0x14#8 rfl rfl rfl rfl rfl)
  | dec_D => exact .decOpnd (.reg .D) (.of 0x15#8 rfl rfl rfl rfl rfl)
  | ld_D_d8 d8 => exact .loadImm (.reg .D) d8 (.of 0x16#8 rfl rfl rfl rfl rfl)
  | rla => exact .rotateA .rl (.of 0x17#8 rfl rfl rfl rfl rfl)
  | jr_e8 e8 => exact .jump (relative s e8) 12 (.of 0x18#8 rfl rfl rfl rfl rfl)
  | add_HL_DE => exact .addHL .DE (.of 0x19#8 rfl rfl rfl rfl rfl)
  | ld_A_mDE => exact .loadA (getReg16 s .DE) 8 (.of 0x1A#8 rfl rfl rfl rfl rfl)
  | dec_DE => exact .decPair .DE (.of 0x1B#8 rfl rfl rfl rfl rfl)
  | inc_E => exact .incOpnd (.reg .E) (.of 0x1C#8 rfl rfl rfl rfl rfl)
  | dec_E => exact .decOpnd (.reg .E) (.of 0x1D#8 rfl rfl rfl rfl rfl)
  | ld_E_d8 d8 => exact .loadImm (.reg .E) d8 (.of 0x1E#8 rfl rfl rfl rfl rfl)
  | rra => exact .rotateA .rr (.of 0x1F#8 rfl rfl rfl rfl rfl)
  | jr_NZ_e8 e8 => exact .jumpRelativeIf .NZ e8 (.of 0x20#8 rfl rfl rfl rfl rfl)
  | ld_HL_d16 d16 => exact .loadPair .HL d16 (.of 0x21#8 rfl rfl rfl rfl rfl)
  | ld_mHLI_A => exact .storeAStep 1#16 (.of 0x22#8 rfl rfl rfl rfl rfl)
  | inc_HL => exact .incPair .HL (.of 0x23#8 rfl rfl rfl rfl rfl)
  | inc_H => exact .incOpnd (.reg .H) (.of 0x24#8 rfl rfl rfl rfl rfl)
  | dec_H => exact .decOpnd (.reg .H) (.of 0x25#8 rfl rfl rfl rfl rfl)
  | ld_H_d8 d8 => exact .loadImm (.reg .H) d8 (.of 0x26#8 rfl rfl rfl rfl rfl)
  | daa => exact .decimalAdjust (.of 0x27#8 rfl rfl rfl rfl rfl)
  | jr_Z_e8 e8 => exact .jumpRelativeIf .Z e8 (.of 0x28#8 rfl rfl rfl rfl rfl)
  | add_HL_HL => exact .addHL .HL (.of 0x29#8 rfl rfl rfl rfl rfl)
  | ld_A_mHLI => exact .loadAStep 1#16 (.of 0x2A#8 rfl rfl rfl rfl rfl)
  | dec_HL => exact .decPair .HL (.of 0x2B#8 rfl rfl rfl rfl rfl)
  | inc_L => exact .incOpnd (.reg .L) (.of 0x2C#8 rfl rfl rfl rfl rfl)
  | dec_L => exact .decOpnd (.reg .L) (.of 0x2D#8 rfl rfl rfl rfl rfl)
  | ld_L_d8 d8 => exact .loadImm (.reg .L) d8 (.of 0x2E#8 rfl rfl rfl rfl rfl)
  | cpl => exact .complementA (.of 0x2F#8 rfl rfl rfl rfl rfl)
  | jr_NC_e8 e8 => exact .jumpRelativeIf .NC e8 (.of 0x30#8 rfl rfl rfl rfl rfl)
  | ld_SP_d16 d16 => exact .loadPair .SP d16 (.of 0x31#8 rfl rfl rfl rfl rfl)
  | ld_mHLD_A => exact .storeAStep (-1#16) (.of 0x32#8 rfl rfl rfl rfl rfl)
  | inc_SP => exact .incPair .SP (.of 0x33#8 rfl rfl rfl rfl rfl)
  | inc_mHL => exact .incOpnd .mHL (.of 0x34#8 rfl rfl rfl rfl rfl)
  | dec_mHL => exact .decOpnd .mHL (.of 0x35#8 rfl rfl rfl rfl rfl)
  | ld_mHL_d8 d8 => exact .loadImm .mHL d8 (.of 0x36#8 rfl rfl rfl rfl rfl)
  | scf => exact .setCarry (.of 0x37#8 rfl rfl rfl rfl rfl)
  | jr_C_e8 e8 => exact .jumpRelativeIf .C e8 (.of 0x38#8 rfl rfl rfl rfl rfl)
  | add_HL_SP => exact .addHL .SP (.of 0x39#8 rfl rfl rfl rfl rfl)
  | ld_A_mHLD => exact .loadAStep (-1#16) (.of 0x3A#8 rfl rfl rfl rfl rfl)
  | dec_SP => exact .decPair .SP (.of 0x3B#8 rfl rfl rfl rfl rfl)
  | inc_A => exact .incOpnd (.reg .A) (.of 0x3C#8 rfl rfl rfl rfl rfl)
  | dec_A => exact .decOpnd (.reg .A) (.of 0x3D#8 rfl rfl rfl rfl rfl)
  | ld_A_d8 d8 => exact .loadImm (.reg .A) d8 (.of 0x3E#8 rfl rfl rfl rfl rfl)
  | ccf => exact .complementCarry (.of 0x3F#8 rfl rfl rfl rfl rfl)
  | ld_B_B => exact .loadReg .B (.reg .B) (.of 0x40#8 rfl rfl rfl rfl rfl)
  | ld_B_C => exact .loadReg .B (.reg .C) (.of 0x41#8 rfl rfl rfl rfl rfl)
  | ld_B_D => exact .loadReg .B (.reg .D) (.of 0x42#8 rfl rfl rfl rfl rfl)
  | ld_B_E => exact .loadReg .B (.reg .E) (.of 0x43#8 rfl rfl rfl rfl rfl)
  | ld_B_H => exact .loadReg .B (.reg .H) (.of 0x44#8 rfl rfl rfl rfl rfl)
  | ld_B_L => exact .loadReg .B (.reg .L) (.of 0x45#8 rfl rfl rfl rfl rfl)
  | ld_B_mHL => exact .loadReg .B .mHL (.of 0x46#8 rfl rfl rfl rfl rfl)
  | ld_B_A => exact .loadReg .B (.reg .A) (.of 0x47#8 rfl rfl rfl rfl rfl)
  | ld_C_B => exact .loadReg .C (.reg .B) (.of 0x48#8 rfl rfl rfl rfl rfl)
  | ld_C_C => exact .loadReg .C (.reg .C) (.of 0x49#8 rfl rfl rfl rfl rfl)
  | ld_C_D => exact .loadReg .C (.reg .D) (.of 0x4A#8 rfl rfl rfl rfl rfl)
  | ld_C_E => exact .loadReg .C (.reg .E) (.of 0x4B#8 rfl rfl rfl rfl rfl)
  | ld_C_H => exact .loadReg .C (.reg .H) (.of 0x4C#8 rfl rfl rfl rfl rfl)
  | ld_C_L => exact .loadReg .C (.reg .L) (.of 0x4D#8 rfl rfl rfl rfl rfl)
  | ld_C_mHL => exact .loadReg .C .mHL (.of 0x4E#8 rfl rfl rfl rfl rfl)
  | ld_C_A => exact .loadReg .C (.reg .A) (.of 0x4F#8 rfl rfl rfl rfl rfl)
  | ld_D_B => exact .loadReg .D (.reg .B) (.of 0x50#8 rfl rfl rfl rfl rfl)
  | ld_D_C => exact .loadReg .D (.reg .C) (.of 0x51#8 rfl rfl rfl rfl rfl)
  | ld_D_D => exact .loadReg .D (.reg .D) (.of 0x52#8 rfl rfl rfl rfl rfl)
  | ld_D_E => exact .loadReg .D (.reg .E) (.of 0x53#8 rfl rfl rfl rfl rfl)
  | ld_D_H => exact .loadReg .D (.reg .H) (.of 0x54#8 rfl rfl rfl rfl rfl)
  | ld_D_L => exact .loadReg .D (.reg .L) (.of 0x55#8 rfl rfl rfl rfl rfl)
  | ld_D_mHL => exact .loadReg .D .mHL (.of 0x56#8 rfl rfl rfl rfl rfl)
  | ld_D_A => exact .loadReg .D (.reg .A) (.of 0x57#8 rfl rfl rfl rfl rfl)
  | ld_E_B => exact .loadReg .E (.reg .B) (.of 0x58#8 rfl rfl rfl rfl rfl)
  | ld_E_C => exact .loadReg .E (.reg .C) (.of 0x59#8 rfl rfl rfl rfl rfl)
  | ld_E_D => exact .loadReg .E (.reg .D) (.of 0x5A#8 rfl rfl rfl rfl rfl)
  | ld_E_E => exact .loadReg .E (.reg .E) (.of 0x5B#8 rfl rfl rfl rfl rfl)
  | ld_E_H => exact .loadReg .E (.reg .H) (.of 0x5C#8 rfl rfl rfl rfl rfl)
  | ld_E_L => exact .loadReg .E (.reg .L) (.of 0x5D#8 rfl rfl rfl rfl rfl)
  | ld_E_mHL => exact .loadReg .E .mHL (.of 0x5E#8 rfl rfl rfl rfl rfl)
  | ld_E_A => exact .loadReg .E (.reg .A) (.of 0x5F#8 rfl rfl rfl rfl rfl)
  | ld_H_B => exact .loadReg .H (.reg .B) (.of 0x60#8 rfl rfl rfl rfl rfl)
  | ld_H_C => exact .loadReg .H (.reg .C) (.of 0x61#8 rfl rfl rfl rfl rfl)
  | ld_H_D => exact .loadReg .H (.reg .D) (.of 0x62#8 rfl rfl rfl rfl rfl)
  | ld_H_E => exact .loadReg .H (.reg .E) (.of 0x63#8 rfl rfl rfl rfl rfl)
  | ld_H_H => exact .loadReg .H (.reg .H) (.of 0x64#8 rfl rfl rfl rfl rfl)
  | ld_H_L => exact .loadReg .H (.reg .L) (.of 0x65#8 rfl rfl rfl rfl rfl)
  | ld_H_mHL => exact .loadReg .H .mHL (.of 0x66#8 rfl rfl rfl rfl rfl)
  | ld_H_A => exact .loadReg .H (.reg .A) (.of 0x67#8 rfl rfl rfl rfl rfl)
  | ld_L_B => exact .loadReg .L (.reg .B) (.of 0x68#8 rfl rfl rfl rfl rfl)
  | ld_L_C => exact .loadReg .L (.reg .C) (.of 0x69#8 rfl rfl rfl rfl rfl)
  | ld_L_D => exact .loadReg .L (.reg .D) (.of 0x6A#8 rfl rfl rfl rfl rfl)
  | ld_L_E => exact .loadReg .L (.reg .E) (.of 0x6B#8 rfl rfl rfl rfl rfl)
  | ld_L_H => exact .loadReg .L (.reg .H) (.of 0x6C#8 rfl rfl rfl rfl rfl)
  | ld_L_L => exact .loadReg .L (.reg .L) (.of 0x6D#8 rfl rfl rfl rfl rfl)
  | ld_L_mHL => exact .loadReg .L .mHL (.of 0x6E#8 rfl rfl rfl rfl rfl)
  | ld_L_A => exact .loadReg .L (.reg .A) (.of 0x6F#8 rfl rfl rfl rfl rfl)
  | ld_mHL_B => exact .storeReg .B (.of 0x70#8 rfl rfl rfl rfl rfl)
  | ld_mHL_C => exact .storeReg .C (.of 0x71#8 rfl rfl rfl rfl rfl)
  | ld_mHL_D => exact .storeReg .D (.of 0x72#8 rfl rfl rfl rfl rfl)
  | ld_mHL_E => exact .storeReg .E (.of 0x73#8 rfl rfl rfl rfl rfl)
  | ld_mHL_H => exact .storeReg .H (.of 0x74#8 rfl rfl rfl rfl rfl)
  | ld_mHL_L => exact .storeReg .L (.of 0x75#8 rfl rfl rfl rfl rfl)
  | halt => exact .halt rfl ⟨rfl, rfl, rfl⟩
  | ld_mHL_A => exact .storeReg .A (.of 0x77#8 rfl rfl rfl rfl rfl)
  | ld_A_B => exact .loadReg .A (.reg .B) (.of 0x78#8 rfl rfl rfl rfl rfl)
  | ld_A_C => exact .loadReg .A (.reg .C) (.of 0x79#8 rfl rfl rfl rfl rfl)
  | ld_A_D => exact .loadReg .A (.reg .D) (.of 0x7A#8 rfl rfl rfl rfl rfl)
  | ld_A_E => exact .loadReg .A (.reg .E) (.of 0x7B#8 rfl rfl rfl rfl rfl)
  | ld_A_H => exact .loadReg .A (.reg .H) (.of 0x7C#8 rfl rfl rfl rfl rfl)
  | ld_A_L => exact .loadReg .A (.reg .L) (.of 0x7D#8 rfl rfl rfl rfl rfl)
  | ld_A_mHL => exact .loadReg .A .mHL (.of 0x7E#8 rfl rfl rfl rfl rfl)
  | ld_A_A => exact .loadReg .A (.reg .A) (.of 0x7F#8 rfl rfl rfl rfl rfl)
  | add_A_B => exact .accumulateOpnd .add (.reg .B) (.of 0x80#8 rfl rfl rfl rfl rfl)
  | add_A_C => exact .accumulateOpnd .add (.reg .C) (.of 0x81#8 rfl rfl rfl rfl rfl)
  | add_A_D => exact .accumulateOpnd .add (.reg .D) (.of 0x82#8 rfl rfl rfl rfl rfl)
  | add_A_E => exact .accumulateOpnd .add (.reg .E) (.of 0x83#8 rfl rfl rfl rfl rfl)
  | add_A_H => exact .accumulateOpnd .add (.reg .H) (.of 0x84#8 rfl rfl rfl rfl rfl)
  | add_A_L => exact .accumulateOpnd .add (.reg .L) (.of 0x85#8 rfl rfl rfl rfl rfl)
  | add_A_mHL => exact .accumulateOpnd .add .mHL (.of 0x86#8 rfl rfl rfl rfl rfl)
  | add_A_A => exact .accumulateOpnd .add (.reg .A) (.of 0x87#8 rfl rfl rfl rfl rfl)
  | adc_A_B => exact .accumulateOpnd .adc (.reg .B) (.of 0x88#8 rfl rfl rfl rfl rfl)
  | adc_A_C => exact .accumulateOpnd .adc (.reg .C) (.of 0x89#8 rfl rfl rfl rfl rfl)
  | adc_A_D => exact .accumulateOpnd .adc (.reg .D) (.of 0x8A#8 rfl rfl rfl rfl rfl)
  | adc_A_E => exact .accumulateOpnd .adc (.reg .E) (.of 0x8B#8 rfl rfl rfl rfl rfl)
  | adc_A_H => exact .accumulateOpnd .adc (.reg .H) (.of 0x8C#8 rfl rfl rfl rfl rfl)
  | adc_A_L => exact .accumulateOpnd .adc (.reg .L) (.of 0x8D#8 rfl rfl rfl rfl rfl)
  | adc_A_mHL => exact .accumulateOpnd .adc .mHL (.of 0x8E#8 rfl rfl rfl rfl rfl)
  | adc_A_A => exact .accumulateOpnd .adc (.reg .A) (.of 0x8F#8 rfl rfl rfl rfl rfl)
  | sub_B => exact .accumulateOpnd .sub (.reg .B) (.of 0x90#8 rfl rfl rfl rfl rfl)
  | sub_C => exact .accumulateOpnd .sub (.reg .C) (.of 0x91#8 rfl rfl rfl rfl rfl)
  | sub_D => exact .accumulateOpnd .sub (.reg .D) (.of 0x92#8 rfl rfl rfl rfl rfl)
  | sub_E => exact .accumulateOpnd .sub (.reg .E) (.of 0x93#8 rfl rfl rfl rfl rfl)
  | sub_H => exact .accumulateOpnd .sub (.reg .H) (.of 0x94#8 rfl rfl rfl rfl rfl)
  | sub_L => exact .accumulateOpnd .sub (.reg .L) (.of 0x95#8 rfl rfl rfl rfl rfl)
  | sub_mHL => exact .accumulateOpnd .sub .mHL (.of 0x96#8 rfl rfl rfl rfl rfl)
  | sub_A => exact .accumulateOpnd .sub (.reg .A) (.of 0x97#8 rfl rfl rfl rfl rfl)
  | sbc_A_B => exact .accumulateOpnd .sbc (.reg .B) (.of 0x98#8 rfl rfl rfl rfl rfl)
  | sbc_A_C => exact .accumulateOpnd .sbc (.reg .C) (.of 0x99#8 rfl rfl rfl rfl rfl)
  | sbc_A_D => exact .accumulateOpnd .sbc (.reg .D) (.of 0x9A#8 rfl rfl rfl rfl rfl)
  | sbc_A_E => exact .accumulateOpnd .sbc (.reg .E) (.of 0x9B#8 rfl rfl rfl rfl rfl)
  | sbc_A_H => exact .accumulateOpnd .sbc (.reg .H) (.of 0x9C#8 rfl rfl rfl rfl rfl)
  | sbc_A_L => exact .accumulateOpnd .sbc (.reg .L) (.of 0x9D#8 rfl rfl rfl rfl rfl)
  | sbc_A_mHL => exact .accumulateOpnd .sbc .mHL (.of 0x9E#8 rfl rfl rfl rfl rfl)
  | sbc_A_A => exact .accumulateOpnd .sbc (.reg .A) (.of 0x9F#8 rfl rfl rfl rfl rfl)
  | and_B => exact .accumulateOpnd .and (.reg .B) (.of 0xA0#8 rfl rfl rfl rfl rfl)
  | and_C => exact .accumulateOpnd .and (.reg .C) (.of 0xA1#8 rfl rfl rfl rfl rfl)
  | and_D => exact .accumulateOpnd .and (.reg .D) (.of 0xA2#8 rfl rfl rfl rfl rfl)
  | and_E => exact .accumulateOpnd .and (.reg .E) (.of 0xA3#8 rfl rfl rfl rfl rfl)
  | and_H => exact .accumulateOpnd .and (.reg .H) (.of 0xA4#8 rfl rfl rfl rfl rfl)
  | and_L => exact .accumulateOpnd .and (.reg .L) (.of 0xA5#8 rfl rfl rfl rfl rfl)
  | and_mHL => exact .accumulateOpnd .and .mHL (.of 0xA6#8 rfl rfl rfl rfl rfl)
  | and_A => exact .accumulateOpnd .and (.reg .A) (.of 0xA7#8 rfl rfl rfl rfl rfl)
  | xor_B => exact .accumulateOpnd .xor (.reg .B) (.of 0xA8#8 rfl rfl rfl rfl rfl)
  | xor_C => exact .accumulateOpnd .xor (.reg .C) (.of 0xA9#8 rfl rfl rfl rfl rfl)
  | xor_D => exact .accumulateOpnd .xor (.reg .D) (.of 0xAA#8 rfl rfl rfl rfl rfl)
  | xor_E => exact .accumulateOpnd .xor (.reg .E) (.of 0xAB#8 rfl rfl rfl rfl rfl)
  | xor_H => exact .accumulateOpnd .xor (.reg .H) (.of 0xAC#8 rfl rfl rfl rfl rfl)
  | xor_L => exact .accumulateOpnd .xor (.reg .L) (.of 0xAD#8 rfl rfl rfl rfl rfl)
  | xor_mHL => exact .accumulateOpnd .xor .mHL (.of 0xAE#8 rfl rfl rfl rfl rfl)
  | xor_A => exact .accumulateOpnd .xor (.reg .A) (.of 0xAF#8 rfl rfl rfl rfl rfl)
  | or_B => exact .accumulateOpnd .or (.reg .B) (.of 0xB0#8 rfl rfl rfl rfl rfl)
  | or_C => exact .accumulateOpnd .or (.reg .C) (.of 0xB1#8 rfl rfl rfl rfl rfl)
  | or_D => exact .accumulateOpnd .or (.reg .D) (.of 0xB2#8 rfl rfl rfl rfl rfl)
  | or_E => exact .accumulateOpnd .or (.reg .E) (.of 0xB3#8 rfl rfl rfl rfl rfl)
  | or_H => exact .accumulateOpnd .or (.reg .H) (.of 0xB4#8 rfl rfl rfl rfl rfl)
  | or_L => exact .accumulateOpnd .or (.reg .L) (.of 0xB5#8 rfl rfl rfl rfl rfl)
  | or_mHL => exact .accumulateOpnd .or .mHL (.of 0xB6#8 rfl rfl rfl rfl rfl)
  | or_A => exact .accumulateOpnd .or (.reg .A) (.of 0xB7#8 rfl rfl rfl rfl rfl)
  | cp_B => exact .accumulateOpnd .cp (.reg .B) (.of 0xB8#8 rfl rfl rfl rfl rfl)
  | cp_C => exact .accumulateOpnd .cp (.reg .C) (.of 0xB9#8 rfl rfl rfl rfl rfl)
  | cp_D => exact .accumulateOpnd .cp (.reg .D) (.of 0xBA#8 rfl rfl rfl rfl rfl)
  | cp_E => exact .accumulateOpnd .cp (.reg .E) (.of 0xBB#8 rfl rfl rfl rfl rfl)
  | cp_H => exact .accumulateOpnd .cp (.reg .H) (.of 0xBC#8 rfl rfl rfl rfl rfl)
  | cp_L => exact .accumulateOpnd .cp (.reg .L) (.of 0xBD#8 rfl rfl rfl rfl rfl)
  | cp_mHL => exact .accumulateOpnd .cp .mHL (.of 0xBE#8 rfl rfl rfl rfl rfl)
  | cp_A => exact .accumulateOpnd .cp (.reg .A) (.of 0xBF#8 rfl rfl rfl rfl rfl)
  | ret_NZ => exact .retIf .NZ (.of 0xC0#8 rfl rfl rfl rfl rfl)
  | pop_BC => exact .popPair .BC (.of 0xC1#8 rfl rfl rfl rfl rfl)
  | jp_NZ_a16 a16 => exact .jumpIf .NZ a16 (.of 0xC2#8 rfl rfl rfl rfl rfl)
  | jp_a16 a16 => exact .jump a16 16 (.of 0xC3#8 rfl rfl rfl rfl rfl)
  | call_NZ_a16 a16 => exact .callIf .NZ a16 (.of 0xC4#8 rfl rfl rfl rfl rfl)
  | push_BC => exact .pushPair .BC (.of 0xC5#8 rfl rfl rfl rfl rfl)
  | add_A_d8 d8 => exact .accumulate .add d8 (.of 0xC6#8 rfl rfl rfl rfl rfl)
  | rst_0x00 => exact .call 0x0000#16 16 (.of 0xC7#8 rfl rfl rfl rfl rfl)
  | ret_Z => exact .retIf .Z (.of 0xC8#8 rfl rfl rfl rfl rfl)
  | ret => exact .ret 16 (.of 0xC9#8 rfl rfl rfl rfl rfl)
  | jp_Z_a16 a16 => exact .jumpIf .Z a16 (.of 0xCA#8 rfl rfl rfl rfl rfl)
  | call_Z_a16 a16 => exact .callIf .Z a16 (.of 0xCC#8 rfl rfl rfl rfl rfl)
  | call_a16 a16 => exact .call a16 24 (.of 0xCD#8 rfl rfl rfl rfl rfl)
  | adc_A_d8 d8 => exact .accumulate .adc d8 (.of 0xCE#8 rfl rfl rfl rfl rfl)
  | rst_0x08 => exact .call 0x0008#16 16 (.of 0xCF#8 rfl rfl rfl rfl rfl)
  | ret_NC => exact .retIf .NC (.of 0xD0#8 rfl rfl rfl rfl rfl)
  | pop_DE => exact .popPair .DE (.of 0xD1#8 rfl rfl rfl rfl rfl)
  | jp_NC_a16 a16 => exact .jumpIf .NC a16 (.of 0xD2#8 rfl rfl rfl rfl rfl)
  | call_NC_a16 a16 => exact .callIf .NC a16 (.of 0xD4#8 rfl rfl rfl rfl rfl)
  | push_DE => exact .pushPair .DE (.of 0xD5#8 rfl rfl rfl rfl rfl)
  | sub_d8 d8 => exact .accumulate .sub d8 (.of 0xD6#8 rfl rfl rfl rfl rfl)
  | rst_0x10 => exact .call 0x0010#16 16 (.of 0xD7#8 rfl rfl rfl rfl rfl)
  | ret_C => exact .retIf .C (.of 0xD8#8 rfl rfl rfl rfl rfl)
  | reti => exact .reti rfl ⟨rfl, rfl, rfl⟩
  | jp_C_a16 a16 => exact .jumpIf .C a16 (.of 0xDA#8 rfl rfl rfl rfl rfl)
  | call_C_a16 a16 => exact .callIf .C a16 (.of 0xDC#8 rfl rfl rfl rfl rfl)
  | sbc_A_d8 d8 => exact .accumulate .sbc d8 (.of 0xDE#8 rfl rfl rfl rfl rfl)
  | rst_0x18 => exact .call 0x0018#16 16 (.of 0xDF#8 rfl rfl rfl rfl rfl)
  | ldh_mA8_A a8 => exact .storeA (highPage a8) 12 (.of 0xE0#8 rfl rfl rfl rfl rfl)
  | pop_HL => exact .popPair .HL (.of 0xE1#8 rfl rfl rfl rfl rfl)
  | ld_mC_A => exact .storeA (highPage s.regs.c) 8 (.of 0xE2#8 rfl rfl rfl rfl rfl)
  | push_HL => exact .pushPair .HL (.of 0xE5#8 rfl rfl rfl rfl rfl)
  | and_d8 d8 => exact .accumulate .and d8 (.of 0xE6#8 rfl rfl rfl rfl rfl)
  | rst_0x20 => exact .call 0x0020#16 16 (.of 0xE7#8 rfl rfl rfl rfl rfl)
  | add_SP_e8 e8 => exact .addSP e8 (.of 0xE8#8 rfl rfl rfl rfl rfl)
  | jp_HL => exact .jump (getHL s) 4 (.of 0xE9#8 rfl rfl rfl rfl rfl)
  | ld_mA16_A a16 => exact .storeA a16 16 (.of 0xEA#8 rfl rfl rfl rfl rfl)
  | xor_d8 d8 => exact .accumulate .xor d8 (.of 0xEE#8 rfl rfl rfl rfl rfl)
  | rst_0x28 => exact .call 0x0028#16 16 (.of 0xEF#8 rfl rfl rfl rfl rfl)
  | ldh_A_mA8 a8 => exact .loadA (highPage a8) 12 (.of 0xF0#8 rfl rfl rfl rfl rfl)
  | pop_AF => exact .popPair .AF (.of 0xF1#8 rfl rfl rfl rfl rfl)
  | ld_A_mC => exact .loadA (highPage s.regs.c) 8 (.of 0xF2#8 rfl rfl rfl rfl rfl)
  | di => exact .di rfl ⟨rfl, rfl, rfl⟩
  | push_AF => exact .pushPair .AF (.of 0xF5#8 rfl rfl rfl rfl rfl)
  | or_d8 d8 => exact .accumulate .or d8 (.of 0xF6#8 rfl rfl rfl rfl rfl)
  | rst_0x30 => exact .call 0x0030#16 16 (.of 0xF7#8 rfl rfl rfl rfl rfl)
  | ld_HL_SPe8 e8 => exact .loadHLFromSP e8 (.of 0xF8#8 rfl rfl rfl rfl rfl)
  | ld_SP_HL => exact .loadSPFromHL (.of 0xF9#8 rfl rfl rfl rfl rfl)
  | ld_A_mA16 a16 => exact .loadA a16 16 (.of 0xFA#8 rfl rfl rfl rfl rfl)
  | ei => exact .ei rfl ⟨rfl, rfl, rfl⟩
  | cp_d8 d8 => exact .accumulate .cp d8 (.of 0xFE#8 rfl rfl rfl rfl rfl)
  | rst_0x38 => exact .call 0x0038#16 16 (.of 0xFF#8 rfl rfl rfl rfl rfl)
  | rlc_B => exact .shiftOpnd .rlc (.reg .B) (.of 0xCB#8 rfl rfl rfl rfl rfl)
  | rlc_C => exact .shiftOpnd .rlc (.reg .C) (.of 0xCB#8 rfl rfl rfl rfl rfl)
  | rlc_D => exact .shiftOpnd .rlc (.reg .D) (.of 0xCB#8 rfl rfl rfl rfl rfl)
  | rlc_E => exact .shiftOpnd .rlc (.reg .E) (.of 0xCB#8 rfl rfl rfl rfl rfl)
  | rlc_H => exact .shiftOpnd .rlc (.reg .H) (.of 0xCB#8 rfl rfl rfl rfl rfl)
  | rlc_L => exact .shiftOpnd .rlc (.reg .L) (.of 0xCB#8 rfl rfl rfl rfl rfl)
  | rlc_mHL => exact .shiftOpnd .rlc .mHL (.of 0xCB#8 rfl rfl rfl rfl rfl)
  | rlc_A => exact .shiftOpnd .rlc (.reg .A) (.of 0xCB#8 rfl rfl rfl rfl rfl)
  | rrc_B => exact .shiftOpnd .rrc (.reg .B) (.of 0xCB#8 rfl rfl rfl rfl rfl)
  | rrc_C => exact .shiftOpnd .rrc (.reg .C) (.of 0xCB#8 rfl rfl rfl rfl rfl)
  | rrc_D => exact .shiftOpnd .rrc (.reg .D) (.of 0xCB#8 rfl rfl rfl rfl rfl)
  | rrc_E => exact .shiftOpnd .rrc (.reg .E) (.of 0xCB#8 rfl rfl rfl rfl rfl)
  | rrc_H => exact .shiftOpnd .rrc (.reg .H) (.of 0xCB#8 rfl rfl rfl rfl rfl)
  | rrc_L => exact .shiftOpnd .rrc (.reg .L) (.of 0xCB#8 rfl rfl rfl rfl rfl)
  | rrc_mHL => exact .shiftOpnd .rrc .mHL (.of 0xCB#8 rfl rfl rfl rfl rfl)
  | rrc_A => exact .shiftOpnd .rrc (.reg .A) (.of 0xCB#8 rfl rfl rfl rfl rfl)
  | rl_B => exact .shiftOpnd .rl (.reg .B) (.of 0xCB#8 rfl rfl rfl rfl rfl)
  | rl_C => exact .shiftOpnd .rl (.reg .C) (.of 0xCB#8 rfl rfl rfl rfl rfl)
  | rl_D => exact .shiftOpnd .rl (.reg .D) (.of 0xCB#8 rfl rfl rfl rfl rfl)
  | rl_E => exact .shiftOpnd .rl (.reg .E) (.of 0xCB#8 rfl rfl rfl rfl rfl)
  | rl_H => exact .shiftOpnd .rl (.reg .H) (.of 0xCB#8 rfl rfl rfl rfl rfl)
  | rl_L => exact .shiftOpnd .rl (.reg .L) (.of 0xCB#8 rfl rfl rfl rfl rfl)
  | rl_mHL => exact .shiftOpnd .rl .mHL (.of 0xCB#8 rfl rfl rfl rfl rfl)
  | rl_A => exact .shiftOpnd .rl (.reg .A) (.of 0xCB#8 rfl rfl rfl rfl rfl)
  | rr_B => exact .shiftOpnd .rr (.reg .B) (.of 0xCB#8 rfl rfl rfl rfl rfl)
  | rr_C => exact .shiftOpnd .rr (.reg .C) (.of 0xCB#8 rfl rfl rfl rfl rfl)
  | rr_D => exact .shiftOpnd .rr (.reg .D) (.of 0xCB#8 rfl rfl rfl rfl rfl)
  | rr_E => exact .shiftOpnd .rr (.reg .E) (.of 0xCB#8 rfl rfl rfl rfl rfl)
  | rr_H => exact .shiftOpnd .rr (.reg .H) (.of 0xCB#8 rfl rfl rfl rfl rfl)
  | rr_L => exact .shiftOpnd .rr (.reg .L) (.of 0xCB#8 rfl rfl rfl rfl rfl)
  | rr_mHL => exact .shiftOpnd .rr .mHL (.of 0xCB#8 rfl rfl rfl rfl rfl)
  | rr_A => exact .shiftOpnd .rr (.reg .A) (.of 0xCB#8 rfl rfl rfl rfl rfl)
  | sla_B => exact .shiftOpnd .sla (.reg .B) (.of 0xCB#8 rfl rfl rfl rfl rfl)
  | sla_C => exact .shiftOpnd .sla (.reg .C) (.of 0xCB#8 rfl rfl rfl rfl rfl)
  | sla_D => exact .shiftOpnd .sla (.reg .D) (.of 0xCB#8 rfl rfl rfl rfl rfl)
  | sla_E => exact .shiftOpnd .sla (.reg .E) (.of 0xCB#8 rfl rfl rfl rfl rfl)
  | sla_H => exact .shiftOpnd .sla (.reg .H) (.of 0xCB#8 rfl rfl rfl rfl rfl)
  | sla_L => exact .shiftOpnd .sla (.reg .L) (.of 0xCB#8 rfl rfl rfl rfl rfl)
  | sla_mHL => exact .shiftOpnd .sla .mHL (.of 0xCB#8 rfl rfl rfl rfl rfl)
  | sla_A => exact .shiftOpnd .sla (.reg .A) (.of 0xCB#8 rfl rfl rfl rfl rfl)
  | sra_B => exact .shiftOpnd .sra (.reg .B) (.of 0xCB#8 rfl rfl rfl rfl rfl)
  | sra_C => exact .shiftOpnd .sra (.reg .C) (.of 0xCB#8 rfl rfl rfl rfl rfl)
  | sra_D => exact .shiftOpnd .sra (.reg .D) (.of 0xCB#8 rfl rfl rfl rfl rfl)
  | sra_E => exact .shiftOpnd .sra (.reg .E) (.of 0xCB#8 rfl rfl rfl rfl rfl)
  | sra_H => exact .shiftOpnd .sra (.reg .H) (.of 0xCB#8 rfl rfl rfl rfl rfl)
  | sra_L => exact .shiftOpnd .sra (.reg .L) (.of 0xCB#8 rfl rfl rfl rfl rfl)
  | sra_mHL => exact .shiftOpnd .sra .mHL (.of 0xCB#8 rfl rfl rfl rfl rfl)
  | sra_A => exact .shiftOpnd .sra (.reg .A) (.of 0xCB#8 rfl rfl rfl rfl rfl)
  | swap_B => exact .shiftOpnd .swap (.reg .B) (.of 0xCB#8 rfl rfl rfl rfl rfl)
  | swap_C => exact .shiftOpnd .swap (.reg .C) (.of 0xCB#8 rfl rfl rfl rfl rfl)
  | swap_D => exact .shiftOpnd .swap (.reg .D) (.of 0xCB#8 rfl rfl rfl rfl rfl)
  | swap_E => exact .shiftOpnd .swap (.reg .E) (.of 0xCB#8 rfl rfl rfl rfl rfl)
  | swap_H => exact .shiftOpnd .swap (.reg .H) (.of 0xCB#8 rfl rfl rfl rfl rfl)
  | swap_L => exact .shiftOpnd .swap (.reg .L) (.of 0xCB#8 rfl rfl rfl rfl rfl)
  | swap_mHL => exact .shiftOpnd .swap .mHL (.of 0xCB#8 rfl rfl rfl rfl rfl)
  | swap_A => exact .shiftOpnd .swap (.reg .A) (.of 0xCB#8 rfl rfl rfl rfl rfl)
  | srl_B => exact .shiftOpnd .srl (.reg .B) (.of 0xCB#8 rfl rfl rfl rfl rfl)
  | srl_C => exact .shiftOpnd .srl (.reg .C) (.of 0xCB#8 rfl rfl rfl rfl rfl)
  | srl_D => exact .shiftOpnd .srl (.reg .D) (.of 0xCB#8 rfl rfl rfl rfl rfl)
  | srl_E => exact .shiftOpnd .srl (.reg .E) (.of 0xCB#8 rfl rfl rfl rfl rfl)
  | srl_H => exact .shiftOpnd .srl (.reg .H) (.of 0xCB#8 rfl rfl rfl rfl rfl)
  | srl_L => exact .shiftOpnd .srl (.reg .L) (.of 0xCB#8 rfl rfl rfl rfl rfl)
  | srl_mHL => exact .shiftOpnd .srl .mHL (.of 0xCB#8 rfl rfl rfl rfl rfl)
  | srl_A => exact .shiftOpnd .srl (.reg .A) (.of 0xCB#8 rfl rfl rfl rfl rfl)
  | bit_0_B => exact .bitOpnd 0 (.reg .B) (.of 0xCB#8 rfl rfl rfl rfl rfl)
  | bit_0_C => exact .bitOpnd 0 (.reg .C) (.of 0xCB#8 rfl rfl rfl rfl rfl)
  | bit_0_D => exact .bitOpnd 0 (.reg .D) (.of 0xCB#8 rfl rfl rfl rfl rfl)
  | bit_0_E => exact .bitOpnd 0 (.reg .E) (.of 0xCB#8 rfl rfl rfl rfl rfl)
  | bit_0_H => exact .bitOpnd 0 (.reg .H) (.of 0xCB#8 rfl rfl rfl rfl rfl)
  | bit_0_L => exact .bitOpnd 0 (.reg .L) (.of 0xCB#8 rfl rfl rfl rfl rfl)
  | bit_0_mHL => exact .bitOpnd 0 .mHL (.of 0xCB#8 rfl rfl rfl rfl rfl)
  | bit_0_A => exact .bitOpnd 0 (.reg .A) (.of 0xCB#8 rfl rfl rfl rfl rfl)
  | bit_1_B => exact .bitOpnd 1 (.reg .B) (.of 0xCB#8 rfl rfl rfl rfl rfl)
  | bit_1_C => exact .bitOpnd 1 (.reg .C) (.of 0xCB#8 rfl rfl rfl rfl rfl)
  | bit_1_D => exact .bitOpnd 1 (.reg .D) (.of 0xCB#8 rfl rfl rfl rfl rfl)
  | bit_1_E => exact .bitOpnd 1 (.reg .E) (.of 0xCB#8 rfl rfl rfl rfl rfl)
  | bit_1_H => exact .bitOpnd 1 (.reg .H) (.of 0xCB#8 rfl rfl rfl rfl rfl)
  | bit_1_L => exact .bitOpnd 1 (.reg .L) (.of 0xCB#8 rfl rfl rfl rfl rfl)
  | bit_1_mHL => exact .bitOpnd 1 .mHL (.of 0xCB#8 rfl rfl rfl rfl rfl)
  | bit_1_A => exact .bitOpnd 1 (.reg .A) (.of 0xCB#8 rfl rfl rfl rfl rfl)
  | bit_2_B => exact .bitOpnd 2 (.reg .B) (.of 0xCB#8 rfl rfl rfl rfl rfl)
  | bit_2_C => exact .bitOpnd 2 (.reg .C) (.of 0xCB#8 rfl rfl rfl rfl rfl)
  | bit_2_D => exact .bitOpnd 2 (.reg .D) (.of 0xCB#8 rfl rfl rfl rfl rfl)
  | bit_2_E => exact .bitOpnd 2 (.reg .E) (.of 0xCB#8 rfl rfl rfl rfl rfl)
  | bit_2_H => exact .bitOpnd 2 (.reg .H) (.of 0xCB#8 rfl rfl rfl rfl rfl)
  | bit_2_L => exact .bitOpnd 2 (.reg .L) (.of 0xCB#8 rfl rfl rfl rfl rfl)
  | bit_2_mHL => exact .bitOpnd 2 .mHL (.of 0xCB#8 rfl rfl rfl rfl rfl)
  | bit_2_A => exact .bitOpnd 2 (.reg .A) (.of 0xCB#8 rfl rfl rfl rfl rfl)
  | bit_3_B => exact .bitOpnd 3 (.reg .B) (.of 0xCB#8 rfl rfl rfl rfl rfl)
  | bit_3_C => exact .bitOpnd 3 (.reg .C) (.of 0xCB#8 rfl rfl rfl rfl rfl)
  | bit_3_D => exact .bitOpnd 3 (.reg .D) (.of 0xCB#8 rfl rfl rfl rfl rfl)
  | bit_3_E => exact .bitOpnd 3 (.reg .E) (.of 0xCB#8 rfl rfl rfl rfl rfl)
  | bit_3_H => exact .bitOpnd 3 (.reg .H) (.of 0xCB#8 rfl rfl rfl rfl rfl)
  | bit_3_L => exact .bitOpnd 3 (.reg .L) (.of 0xCB#8 rfl rfl rfl rfl rfl)
  | bit_3_mHL => exact .bitOpnd 3 .mHL (.of 0xCB#8 rfl rfl rfl rfl rfl)
  | bit_3_A => exact .bitOpnd 3 (.reg .A) (.of 0xCB#8 rfl rfl rfl rfl rfl)
  | bit_4_B => exact .bitOpnd 4 (.reg .B) (.of 0xCB#8 rfl rfl rfl rfl rfl)
  | bit_4_C => exact .bitOpnd 4 (.reg .C) (.of 0xCB#8 rfl rfl rfl rfl rfl)
  | bit_4_D => exact .bitOpnd 4 (.reg .D) (.of 0xCB#8 rfl rfl rfl rfl rfl)
  | bit_4_E => exact .bitOpnd 4 (.reg .E) (.of 0xCB#8 rfl rfl rfl rfl rfl)
  | bit_4_H => exact .bitOpnd 4 (.reg .H) (.of 0xCB#8 rfl rfl rfl rfl rfl)
  | bit_4_L => exact .bitOpnd 4 (.reg .L) (.of 0xCB#8 rfl rfl rfl rfl rfl)
  | bit_4_mHL => exact .bitOpnd 4 .mHL (.of 0xCB#8 rfl rfl rfl rfl rfl)
  | bit_4_A => exact .bitOpnd 4 (.reg .A) (.of 0xCB#8 rfl rfl rfl rfl rfl)
  | bit_5_B => exact .bitOpnd 5 (.reg .B) (.of 0xCB#8 rfl rfl rfl rfl rfl)
  | bit_5_C => exact .bitOpnd 5 (.reg .C) (.of 0xCB#8 rfl rfl rfl rfl rfl)
  | bit_5_D => exact .bitOpnd 5 (.reg .D) (.of 0xCB#8 rfl rfl rfl rfl rfl)
  | bit_5_E => exact .bitOpnd 5 (.reg .E) (.of 0xCB#8 rfl rfl rfl rfl rfl)
  | bit_5_H => exact .bitOpnd 5 (.reg .H) (.of 0xCB#8 rfl rfl rfl rfl rfl)
  | bit_5_L => exact .bitOpnd 5 (.reg .L) (.of 0xCB#8 rfl rfl rfl rfl rfl)
  | bit_5_mHL => exact .bitOpnd 5 .mHL (.of 0xCB#8 rfl rfl rfl rfl rfl)
  | bit_5_A => exact .bitOpnd 5 (.reg .A) (.of 0xCB#8 rfl rfl rfl rfl rfl)
  | bit_6_B => exact .bitOpnd 6 (.reg .B) (.of 0xCB#8 rfl rfl rfl rfl rfl)
  | bit_6_C => exact .bitOpnd 6 (.reg .C) (.of 0xCB#8 rfl rfl rfl rfl rfl)
  | bit_6_D => exact .bitOpnd 6 (.reg .D) (.of 0xCB#8 rfl rfl rfl rfl rfl)
  | bit_6_E => exact .bitOpnd 6 (.reg .E) (.of 0xCB#8 rfl rfl rfl rfl rfl)
  | bit_6_H => exact .bitOpnd 6 (.reg .H) (.of 0xCB#8 rfl rfl rfl rfl rfl)
  | bit_6_L => exact .bitOpnd 6 (.reg .L) (.of 0xCB#8 rfl rfl rfl rfl rfl)
  | bit_6_mHL => exact .bitOpnd 6 .mHL (.of 0xCB#8 rfl rfl rfl rfl rfl)
  | bit_6_A => exact .bitOpnd 6 (.reg .A) (.of 0xCB#8 rfl rfl rfl rfl rfl)
  | bit_7_B => exact .bitOpnd 7 (.reg .B) (.of 0xCB#8 rfl rfl rfl rfl rfl)
  | bit_7_C => exact .bitOpnd 7 (.reg .C) (.of 0xCB#8 rfl rfl rfl rfl rfl)
  | bit_7_D => exact .bitOpnd 7 (.reg .D) (.of 0xCB#8 rfl rfl rfl rfl rfl)
  | bit_7_E => exact .bitOpnd 7 (.reg .E) (.of 0xCB#8 rfl rfl rfl rfl rfl)
  | bit_7_H => exact .bitOpnd 7 (.reg .H) (.of 0xCB#8 rfl rfl rfl rfl rfl)
  | bit_7_L => exact .bitOpnd 7 (.reg .L) (.of 0xCB#8 rfl rfl rfl rfl rfl)
  | bit_7_mHL => exact .bitOpnd 7 .mHL (.of 0xCB#8 rfl rfl rfl rfl rfl)
  | bit_7_A => exact .bitOpnd 7 (.reg .A) (.of 0xCB#8 rfl rfl rfl rfl rfl)
  | res_0_B => exact .resOpnd 0 (.reg .B) (.of 0xCB#8 rfl rfl rfl rfl rfl)
  | res_0_C => exact .resOpnd 0 (.reg .C) (.of 0xCB#8 rfl rfl rfl rfl rfl)
  | res_0_D => exact .resOpnd 0 (.reg .D) (.of 0xCB#8 rfl rfl rfl rfl rfl)
  | res_0_E => exact .resOpnd 0 (.reg .E) (.of 0xCB#8 rfl rfl rfl rfl rfl)
  | res_0_H => exact .resOpnd 0 (.reg .H) (.of 0xCB#8 rfl rfl rfl rfl rfl)
  | res_0_L => exact .resOpnd 0 (.reg .L) (.of 0xCB#8 rfl rfl rfl rfl rfl)
  | res_0_mHL => exact .resOpnd 0 .mHL (.of 0xCB#8 rfl rfl rfl rfl rfl)
  | res_0_A => exact .resOpnd 0 (.reg .A) (.of 0xCB#8 rfl rfl rfl rfl rfl)
  | res_1_B => exact .resOpnd 1 (.reg .B) (.of 0xCB#8 rfl rfl rfl rfl rfl)
  | res_1_C => exact .resOpnd 1 (.reg .C) (.of 0xCB#8 rfl rfl rfl rfl rfl)
  | res_1_D => exact .resOpnd 1 (.reg .D) (.of 0xCB#8 rfl rfl rfl rfl rfl)
  | res_1_E => exact .resOpnd 1 (.reg .E) (.of 0xCB#8 rfl rfl rfl rfl rfl)
  | res_1_H => exact .resOpnd 1 (.reg .H) (.of 0xCB#8 rfl rfl rfl rfl rfl)
  | res_1_L => exact .resOpnd 1 (.reg .L) (.of 0xCB#8 rfl rfl rfl rfl rfl)
  | res_1_mHL => exact .resOpnd 1 .mHL (.of 0xCB#8 rfl rfl rfl rfl rfl)
  | res_1_A => exact .resOpnd 1 (.reg .A) (.of 0xCB#8 rfl rfl rfl rfl rfl)
  | res_2_B => exact .resOpnd 2 (.reg .B) (.of 0xCB#8 rfl rfl rfl rfl rfl)
  | res_2_C => exact .resOpnd 2 (.reg .C) (.of 0xCB#8 rfl rfl rfl rfl rfl)
  | res_2_D => exact .resOpnd 2 (.reg .D) (.of 0xCB#8 rfl rfl rfl rfl rfl)
  | res_2_E => exact .resOpnd 2 (.reg .E) (.of 0xCB#8 rfl rfl rfl rfl rfl)
  | res_2_H => exact .resOpnd 2 (.reg .H) (.of 0xCB#8 rfl rfl rfl rfl rfl)
  | res_2_L => exact .resOpnd 2 (.reg .L) (.of 0xCB#8 rfl rfl rfl rfl rfl)
  | res_2_mHL => exact .resOpnd 2 .mHL (.of 0xCB#8 rfl rfl rfl rfl rfl)
  | res_2_A => exact .resOpnd 2 (.reg .A) (.of 0xCB#8 rfl rfl rfl rfl rfl)
  | res_3_B => exact .resOpnd 3 (.reg .B) (.of 0xCB#8 rfl rfl rfl rfl rfl)
  | res_3_C => exact .resOpnd 3 (.reg .C) (.of 0xCB#8 rfl rfl rfl rfl rfl)
  | res_3_D => exact .resOpnd 3 (.reg .D) (.of 0xCB#8 rfl rfl rfl rfl rfl)
  | res_3_E => exact .resOpnd 3 (.reg .E) (.of 0xCB#8 rfl rfl rfl rfl rfl)
  | res_3_H => exact .resOpnd 3 (.reg .H) (.of 0xCB#8 rfl rfl rfl rfl rfl)
  | res_3_L => exact .resOpnd 3 (.reg .L) (.of 0xCB#8 rfl rfl rfl rfl rfl)
  | res_3_mHL => exact .resOpnd 3 .mHL (.of 0xCB#8 rfl rfl rfl rfl rfl)
  | res_3_A => exact .resOpnd 3 (.reg .A) (.of 0xCB#8 rfl rfl rfl rfl rfl)
  | res_4_B => exact .resOpnd 4 (.reg .B) (.of 0xCB#8 rfl rfl rfl rfl rfl)
  | res_4_C => exact .resOpnd 4 (.reg .C) (.of 0xCB#8 rfl rfl rfl rfl rfl)
  | res_4_D => exact .resOpnd 4 (.reg .D) (.of 0xCB#8 rfl rfl rfl rfl rfl)
  | res_4_E => exact .resOpnd 4 (.reg .E) (.of 0xCB#8 rfl rfl rfl rfl rfl)
  | res_4_H => exact .resOpnd 4 (.reg .H) (.of 0xCB#8 rfl rfl rfl rfl rfl)
  | res_4_L => exact .resOpnd 4 (.reg .L) (.of 0xCB#8 rfl rfl rfl rfl rfl)
  | res_4_mHL => exact .resOpnd 4 .mHL (.of 0xCB#8 rfl rfl rfl rfl rfl)
  | res_4_A => exact .resOpnd 4 (.reg .A) (.of 0xCB#8 rfl rfl rfl rfl rfl)
  | res_5_B => exact .resOpnd 5 (.reg .B) (.of 0xCB#8 rfl rfl rfl rfl rfl)
  | res_5_C => exact .resOpnd 5 (.reg .C) (.of 0xCB#8 rfl rfl rfl rfl rfl)
  | res_5_D => exact .resOpnd 5 (.reg .D) (.of 0xCB#8 rfl rfl rfl rfl rfl)
  | res_5_E => exact .resOpnd 5 (.reg .E) (.of 0xCB#8 rfl rfl rfl rfl rfl)
  | res_5_H => exact .resOpnd 5 (.reg .H) (.of 0xCB#8 rfl rfl rfl rfl rfl)
  | res_5_L => exact .resOpnd 5 (.reg .L) (.of 0xCB#8 rfl rfl rfl rfl rfl)
  | res_5_mHL => exact .resOpnd 5 .mHL (.of 0xCB#8 rfl rfl rfl rfl rfl)
  | res_5_A => exact .resOpnd 5 (.reg .A) (.of 0xCB#8 rfl rfl rfl rfl rfl)
  | res_6_B => exact .resOpnd 6 (.reg .B) (.of 0xCB#8 rfl rfl rfl rfl rfl)
  | res_6_C => exact .resOpnd 6 (.reg .C) (.of 0xCB#8 rfl rfl rfl rfl rfl)
  | res_6_D => exact .resOpnd 6 (.reg .D) (.of 0xCB#8 rfl rfl rfl rfl rfl)
  | res_6_E => exact .resOpnd 6 (.reg .E) (.of 0xCB#8 rfl rfl rfl rfl rfl)
  | res_6_H => exact .resOpnd 6 (.reg .H) (.of 0xCB#8 rfl rfl rfl rfl rfl)
  | res_6_L => exact .resOpnd 6 (.reg .L) (.of 0xCB#8 rfl rfl rfl rfl rfl)
  | res_6_mHL => exact .resOpnd 6 .mHL (.of 0xCB#8 rfl rfl rfl rfl rfl)
  | res_6_A => exact .resOpnd 6 (.reg .A) (.of 0xCB#8 rfl rfl rfl rfl rfl)
  | res_7_B => exact .resOpnd 7 (.reg .B) (.of 0xCB#8 rfl rfl rfl rfl rfl)
  | res_7_C => exact .resOpnd 7 (.reg .C) (.of 0xCB#8 rfl rfl rfl rfl rfl)
  | res_7_D => exact .resOpnd 7 (.reg .D) (.of 0xCB#8 rfl rfl rfl rfl rfl)
  | res_7_E => exact .resOpnd 7 (.reg .E) (.of 0xCB#8 rfl rfl rfl rfl rfl)
  | res_7_H => exact .resOpnd 7 (.reg .H) (.of 0xCB#8 rfl rfl rfl rfl rfl)
  | res_7_L => exact .resOpnd 7 (.reg .L) (.of 0xCB#8 rfl rfl rfl rfl rfl)
  | res_7_mHL => exact .resOpnd 7 .mHL (.of 0xCB#8 rfl rfl rfl rfl rfl)
  | res_7_A => exact .resOpnd 7 (.reg .A) (.of 0xCB#8 rfl rfl rfl rfl rfl)
  | set_0_B => exact .setOpnd 0 (.reg .B) (.of 0xCB#8 rfl rfl rfl rfl rfl)
  | set_0_C => exact .setOpnd 0 (.reg .C) (.of 0xCB#8 rfl rfl rfl rfl rfl)
  | set_0_D => exact .setOpnd 0 (.reg .D) (.of 0xCB#8 rfl rfl rfl rfl rfl)
  | set_0_E => exact .setOpnd 0 (.reg .E) (.of 0xCB#8 rfl rfl rfl rfl rfl)
  | set_0_H => exact .setOpnd 0 (.reg .H) (.of 0xCB#8 rfl rfl rfl rfl rfl)
  | set_0_L => exact .setOpnd 0 (.reg .L) (.of 0xCB#8 rfl rfl rfl rfl rfl)
  | set_0_mHL => exact .setOpnd 0 .mHL (.of 0xCB#8 rfl rfl rfl rfl rfl)
  | set_0_A => exact .setOpnd 0 (.reg .A) (.of 0xCB#8 rfl rfl rfl rfl rfl)
  | set_1_B => exact .setOpnd 1 (.reg .B) (.of 0xCB#8 rfl rfl rfl rfl rfl)
  | set_1_C => exact .setOpnd 1 (.reg .C) (.of 0xCB#8 rfl rfl rfl rfl rfl)
  | set_1_D => exact .setOpnd 1 (.reg .D) (.of 0xCB#8 rfl rfl rfl rfl rfl)
  | set_1_E => exact .setOpnd 1 (.reg .E) (.of 0xCB#8 rfl rfl rfl rfl rfl)
  | set_1_H => exact .setOpnd 1 (.reg .H) (.of 0xCB#8 rfl rfl rfl rfl rfl)
  | set_1_L => exact .setOpnd 1 (.reg .L) (.of 0xCB#8 rfl rfl rfl rfl rfl)
  | set_1_mHL => exact .setOpnd 1 .mHL (.of 0xCB#8 rfl rfl rfl rfl rfl)
  | set_1_A => exact .setOpnd 1 (.reg .A) (.of 0xCB#8 rfl rfl rfl rfl rfl)
  | set_2_B => exact .setOpnd 2 (.reg .B) (.of 0xCB#8 rfl rfl rfl rfl rfl)
  | set_2_C => exact .setOpnd 2 (.reg .C) (.of 0xCB#8 rfl rfl rfl rfl rfl)
  | set_2_D => exact .setOpnd 2 (.reg .D) (.of 0xCB#8 rfl rfl rfl rfl rfl)
  | set_2_E => exact .setOpnd 2 (.reg .E) (.of 0xCB#8 rfl rfl rfl rfl rfl)
  | set_2_H => exact .setOpnd 2 (.reg .H) (.of 0xCB#8 rfl rfl rfl rfl rfl)
  | set_2_L => exact .setOpnd 2 (.reg .L) (.of 0xCB#8 rfl rfl rfl rfl rfl)
  | set_2_mHL => exact .setOpnd 2 .mHL (.of 0xCB#8 rfl rfl rfl rfl rfl)
  | set_2_A => exact .setOpnd 2 (.reg .A) (.of 0xCB#8 rfl rfl rfl rfl rfl)
  | set_3_B => exact .setOpnd 3 (.reg .B) (.of 0xCB#8 rfl rfl rfl rfl rfl)
  | set_3_C => exact .setOpnd 3 (.reg .C) (.of 0xCB#8 rfl rfl rfl rfl rfl)
  | set_3_D => exact .setOpnd 3 (.reg .D) (.of 0xCB#8 rfl rfl rfl rfl rfl)
  | set_3_E => exact .setOpnd 3 (.reg .E) (.of 0xCB#8 rfl rfl rfl rfl rfl)
  | set_3_H => exact .setOpnd 3 (.reg .H) (.of 0xCB#8 rfl rfl rfl rfl rfl)
  | set_3_L => exact .setOpnd 3 (.reg .L) (.of 0xCB#8 rfl rfl rfl rfl rfl)
  | set_3_mHL => exact .setOpnd 3 .mHL (.of 0xCB#8 rfl rfl rfl rfl rfl)
  | set_3_A => exact .setOpnd 3 (.reg .A) (.of 0xCB#8 rfl rfl rfl rfl rfl)
  | set_4_B => exact .setOpnd 4 (.reg .B) (.of 0xCB#8 rfl rfl rfl rfl rfl)
  | set_4_C => exact .setOpnd 4 (.reg .C) (.of 0xCB#8 rfl rfl rfl rfl rfl)
  | set_4_D => exact .setOpnd 4 (.reg .D) (.of 0xCB#8 rfl rfl rfl rfl rfl)
  | set_4_E => exact .setOpnd 4 (.reg .E) (.of 0xCB#8 rfl rfl rfl rfl rfl)
  | set_4_H => exact .setOpnd 4 (.reg .H) (.of 0xCB#8 rfl rfl rfl rfl rfl)
  | set_4_L => exact .setOpnd 4 (.reg .L) (.of 0xCB#8 rfl rfl rfl rfl rfl)
  | set_4_mHL => exact .setOpnd 4 .mHL (.of 0xCB#8 rfl rfl rfl rfl rfl)
  | set_4_A => exact .setOpnd 4 (.reg .A) (.of 0xCB#8 rfl rfl rfl rfl rfl)
  | set_5_B => exact .setOpnd 5 (.reg .B) (.of 0xCB#8 rfl rfl rfl rfl rfl)
  | set_5_C => exact .setOpnd 5 (.reg .C) (.of 0xCB#8 rfl rfl rfl rfl rfl)
  | set_5_D => exact .setOpnd 5 (.reg .D) (.of 0xCB#8 rfl rfl rfl rfl rfl)
  | set_5_E => exact .setOpnd 5 (.reg .E) (.of 0xCB#8 rfl rfl rfl rfl rfl)
  | set_5_H => exact .setOpnd 5 (.reg .H) (.of 0xCB#8 rfl rfl rfl rfl rfl)
  | set_5_L => exact .setOpnd 5 (.reg .L) (.of 0xCB#8 rfl rfl rfl rfl rfl)
  | set_5_mHL => exact .setOpnd 5 .mHL (.of 0xCB#8 rfl rfl rfl rfl rfl)
  | set_5_A => exact .setOpnd 5 (.reg .A) (.of 0xCB#8 rfl rfl rfl rfl rfl)
  | set_6_B => exact .setOpnd 6 (.reg .B) (.of 0xCB#8 rfl rfl rfl rfl rfl)
  | set_6_C => exact .setOpnd 6 (.reg .C) (.of 0xCB#8 rfl rfl rfl rfl rfl)
  | set_6_D => exact .setOpnd 6 (.reg .D) (.of 0xCB#8 rfl rfl rfl rfl rfl)
  | set_6_E => exact .setOpnd 6 (.reg .E) (.of 0xCB#8 rfl rfl rfl rfl rfl)
  | set_6_H => exact .setOpnd 6 (.reg .H) (.of 0xCB#8 rfl rfl rfl rfl rfl)
  | set_6_L => exact .setOpnd 6 (.reg .L) (.of 0xCB#8 rfl rfl rfl rfl rfl)
  | set_6_mHL => exact .setOpnd 6 .mHL (.of 0xCB#8 rfl rfl rfl rfl rfl)
  | set_6_A => exact .setOpnd 6 (.reg .A) (.of 0xCB#8 rfl rfl rfl rfl rfl)
  | set_7_B => exact .setOpnd 7 (.reg .B) (.of 0xCB#8 rfl rfl rfl rfl rfl)
  | set_7_C => exact .setOpnd 7 (.reg .C) (.of 0xCB#8 rfl rfl rfl rfl rfl)
  | set_7_D => exact .setOpnd 7 (.reg .D) (.of 0xCB#8 rfl rfl rfl rfl rfl)
  | set_7_E => exact .setOpnd 7 (.reg .E) (.of 0xCB#8 rfl rfl rfl rfl rfl)
  | set_7_H => exact .setOpnd 7 (.reg .H) (.of 0xCB#8 rfl rfl rfl rfl rfl)
  | set_7_L => exact .setOpnd 7 (.reg .L) (.of 0xCB#8 rfl rfl rfl rfl rfl)
  | set_7_mHL => exact .setOpnd 7 .mHL (.of 0xCB#8 rfl rfl rfl rfl rfl)
  | set_7_A => exact .setOpnd 7 (.reg .A) (.of 0xCB#8 rfl rfl rfl rfl rfl)
  | illegal_D3 => exact .illegal 0xD3#8 rfl (by decide) ⟨rfl, rfl, rfl⟩
  | illegal_DB => exact .illegal 0xDB#8 rfl (by decide) ⟨rfl, rfl, rfl⟩
  | illegal_DD => exact .illegal 0xDD#8 rfl (by decide) ⟨rfl, rfl, rfl⟩
  | illegal_E3 => exact .illegal 0xE3#8 rfl (by decide) ⟨rfl, rfl, rfl⟩
  | illegal_E4 => exact .illegal 0xE4#8 rfl (by decide) ⟨rfl, rfl, rfl⟩
  | illegal_EB => exact .illegal 0xEB#8 rfl (by decide) ⟨rfl, rfl, rfl⟩
  | illegal_EC => exact .illegal 0xEC#8 rfl (by decide) ⟨rfl, rfl, rfl⟩
  | illegal_ED => exact .illegal 0xED#8 rfl (by decide) ⟨rfl, rfl, rfl⟩
  | illegal_F4 => exact .illegal 0xF4#8 rfl (by decide) ⟨rfl, rfl, rfl⟩
  | illegal_FC => exact .illegal 0xFC#8 rfl (by decide) ⟨rfl, rfl, rfl⟩
  | illegal_FD => exact .illegal 0xFD#8 rfl (by decide) ⟨rfl, rfl, rfl⟩

end Sys2Proof.Machine
end

