-- ==== Sys2Proof/Laws/Step.lean ====
section
/-! SUPPORT. What surrounds `exec` in a step, said once: the host's part at the start of a step, bus reads beside it,
instruction fetch, and that `exec` always answers a next state. -/

namespace Sys2Proof.Machine

/-! ## The start of a step -/

@[simp] theorem beginStep_regs (s : State) : (beginStep s).regs = s.regs := by unfold beginStep acceptPalette; split <;> rfl
@[simp] theorem beginStep_ime (s : State) : (beginStep s).ime = s.ime := by unfold beginStep acceptPalette; split <;> rfl
@[simp] theorem beginStep_eiDelay (s : State) : (beginStep s).eiDelay = s.eiDelay := by
  unfold beginStep acceptPalette; split <;> rfl
@[simp] theorem beginStep_runState (s : State) : (beginStep s).runState = s.runState := by
  unfold beginStep acceptPalette; split <;> rfl
@[simp] theorem beginStep_haltBugPending (s : State) : (beginStep s).haltBugPending = s.haltBugPending := by
  unfold beginStep acceptPalette; split <;> rfl
@[simp] theorem beginStep_ie (s : State) : (beginStep s).ie = s.ie := by unfold beginStep acceptPalette; split <;> rfl
@[simp] theorem beginStep_iflag (s : State) : (beginStep s).iflag = s.iflag := by
  unfold beginStep acceptPalette; split <;> rfl
@[simp] theorem beginStep_p1Sel (s : State) : (beginStep s).p1Sel = s.p1Sel := by
  unfold beginStep acceptPalette; split <;> rfl
@[simp] theorem beginStep_joyPrev (s : State) : (beginStep s).joyPrev = s.joyPrev := by
  unfold beginStep acceptPalette; split <;> rfl
@[simp] theorem beginStep_timer (s : State) : (beginStep s).timer = s.timer := by
  unfold beginStep acceptPalette; split <;> rfl
@[simp] theorem beginStep_serial (s : State) : (beginStep s).serial = s.serial := by
  unfold beginStep acceptPalette; split <;> rfl
@[simp] theorem beginStep_sound (s : State) : (beginStep s).sound = s.sound := by
  unfold beginStep acceptPalette; split <;> rfl
@[simp] theorem beginStep_mem (s : State) : (beginStep s).mem = s.mem := by unfold beginStep acceptPalette; split <;> rfl
@[simp] theorem beginStep_eram (s : State) : (beginStep s).eram = s.eram := by
  unfold beginStep acceptPalette; split <;> rfl
@[simp] theorem beginStep_cart (s : State) : (beginStep s).cart = s.cart := by
  unfold beginStep acceptPalette; split <;> rfl
@[simp] theorem beginStep_mbc (s : State) : (beginStep s).mbc = s.mbc := by unfold beginStep acceptPalette; split <;> rfl
@[simp] theorem beginStep_bootOverlay (s : State) : (beginStep s).bootOverlay = s.bootOverlay := by
  unfold beginStep acceptPalette; split <;> rfl
@[simp] theorem beginStep_haltBug (s : State) : (beginStep s).haltBug = s.haltBug := by
  unfold beginStep acceptPalette; split <;> rfl
@[simp] theorem beginStep_out (s : State) : (beginStep s).out = ⟨[], []⟩ := by
  unfold beginStep acceptPalette; split <;> rfl
@[simp] theorem beginStep_cycles (s : State) : (beginStep s).cycles = 0 := by
  unfold beginStep acceptPalette; split <;> rfl
@[simp] theorem beginStep_instrAddr (s : State) : (beginStep s).instrAddr = s.instrAddr := by
  unfold beginStep acceptPalette; split <;> rfl
@[simp] theorem beginStep_buttons (s : State) : (beginStep s).host.buttons = s.host.buttons := by
  unfold beginStep acceptPalette; split <;> rfl
@[simp] theorem beginStep_frameReady (s : State) : (beginStep s).lcd.frameReady = false := by
  unfold beginStep acceptPalette; split <;> rfl

/-- The display's registers and counters at the start of a step are those of the step before (log 7). -/
theorem beginStep_lcd (s : State) :
    (beginStep s).lcd = { s.lcd with frameReady := false, swapPending := (beginStep s).lcd.swapPending } := by
  unfold beginStep acceptPalette; split <;> rfl

@[simp] theorem pendingLines_beginStep (s : State) : pendingLines (beginStep s) = pendingLines s := by
  simp [pendingLines]

theorem beginStep_withRunState (s : State) (r : RunState) :
    beginStep { s with runState := r } = { beginStep s with runState := r } := by
  simp only [beginStep, acceptPalette, withLcd]
  cases s.host.paletteSwap.now <;> rfl

theorem beginStep_drawButtons (s : State) : beginStep (drawButtons s) = drawButtons (beginStep s) := by
  simp only [beginStep, acceptPalette, withLcd]
  cases h : s.host.paletteSwap.now <;> simp only [drawButtons, drawPaletteSwap, h]

/-- No register reads differently at the start of a step. -/
theorem regRead_beginStep (s : State) (r : IoReg) : regRead (beginStep s) r = regRead s r := by
  unfold beginStep acceptPalette; split <;> cases r <;> rfl

/-- No address reads differently at the start of a step. -/
@[simp] theorem memRead_beginStep (s : State) (a : Word) : memRead (beginStep s) a = memRead s a := by
  have h1 : ∀ n, ioRead (beginStep s) n = ioRead s n := by
    intro n
    unfold ioRead
    cases ioRegAt n with
    | some r => exact regRead_beginStep s r
    | none => simp
  have h2 : ∀ n, cartRamRead (beginStep s) n = cartRamRead s n := by
    intro n; unfold beginStep acceptPalette; split <;> rfl
  have h3 : vramBlocked (beginStep s) = vramBlocked s := by unfold beginStep acceptPalette; split <;> rfl
  have h4 : oamBlocked (beginStep s) = oamBlocked s := by unfold beginStep acceptPalette; split <;> rfl
  simp only [memRead, readAt, h1, h2, h3, h4, beginStep_bootOverlay, beginStep_cart, beginStep_mbc, beginStep_mem,
    beginStep_ie]

/-! ## Reads after a read -/

/-- A register found at an address is listed there (R16). -/
theorem ioRegAt_mem {n : Nat} {r : IoReg} (h : ioRegAt n = some r) : (n, r) ∈ ioMap := by
  have go : ∀ l : List (Nat × IoReg), l.lookup n = some r → (n, r) ∈ l := by
    intro l
    induction l with
    | nil => intro h; cases h
    | cons p l ih =>
      intro h
      obtain ⟨k, q⟩ := p
      simp only [List.lookup_cons] at h
      split at h
      · rename_i hk
        injection h with h
        simp only [beq_iff_eq] at hk
        rw [hk, h]
        exact List.mem_cons_self
      · exact List.mem_cons_of_mem _ (ih h)
  exact go ioMap h

/-- P1 is at 0xFF00 only. -/
theorem ioRegAt_p1 {n : Nat} (h : ioRegAt n = some .p1) : n = 0xFF00 :=
  (by decide : ∀ p ∈ ioMap, p.2 = .p1 → p.1 = 0xFF00) _ (ioRegAt_mem h) rfl

/-- A BUTTONS answer taken changes the read of P1 only (R481). -/
theorem memRead_drawButtons {a : Word} (h : a ≠ 0xFF00#16) (s : State) : memRead (drawButtons s) a = memRead s a := by
  have h1 : ∀ n, n ≠ 0xFF00 → ioRead (drawButtons s) n = ioRead s n := by
    intro n hn
    unfold ioRead
    cases hr : ioRegAt n with
    | none => rfl
    | some r =>
      cases r <;> first | rfl | skip
      exact absurd (ioRegAt_p1 hr) hn
  have h2 : a.toNat ≠ 0xFF00 := by bv_omega
  simp only [memRead, readAt, h1 _ h2]
  rfl

/-- A bus read changes the read of P1 only. -/
theorem memRead_afterRead {b : Word} (h : b ≠ 0xFF00#16) (s : State) (a : Word) :
    memRead (afterRead s a) b = memRead s b := by
  unfold afterRead
  split
  · exact memRead_drawButtons h s
  · rfl

@[simp] theorem setPC_setPC (s : State) (v w : Word) : setPC (setPC s v) w = setPC s w := rfl

@[simp] theorem afterRead_instrAddr_update (s : State) (w a : Word) :
    afterRead { s with instrAddr := w } a = { afterRead s a with instrAddr := w } := by
  unfold afterRead; split <;> rfl

/-! ## Fetch -/

/-- One byte fetched with no HALT bug pending (R405). -/
theorem fetchByte_eq {s : State} (h : s.haltBugPending = false) :
    fetchByte s = (memRead s s.regs.pc, setPC (afterRead s s.regs.pc) (s.regs.pc + 1#16)) := by
  simp [fetchByte, busRead, h]

/-- One byte fetched with the HALT bug pending (R322): PC stays. -/
theorem fetchByte_haltBug {s : State} (h : s.haltBugPending = true) :
    fetchByte s = (memRead s s.regs.pc, { afterRead s s.regs.pc with haltBugPending := false }) := by
  simp [fetchByte, busRead, h]

/-! ## `exec` -/

/-- `exec` answers a next state for every instruction in every state. -/
theorem exec_next (i : Instr) (s : State) : ∃ t, exec i s = .next t := by
  have h := exec_shape s i
  revert h
  generalize exec i s = r
  intro h
  cases h <;> first
    | exact ⟨_, rfl⟩
    | (simp only [Machine.jumpIf, Machine.jumpRelativeIf, Machine.callIf, Machine.retIf, Machine.jump, Machine.call,
        Machine.ret, done]
       split <;> exact ⟨_, rfl⟩)

end Sys2Proof.Machine
end

