-- ==== Sys2Proof/Laws/Storage.lean ====
section
/-! SUPPORT. Every operation over the two memories keeps their canonical form and keeps them inside the storage of
R67 (`StorageWf`). -/

namespace Sys2Proof.Machine

/-- What `StorageWf` looks at: both memories, the controller type and the RAM bank count. -/
theorem StorageWf.congr {s t : State} (h : StorageWf s) (hm : t.mem = s.mem) (he : t.eram = s.eram)
    (hc : t.cart = s.cart) : StorageWf t :=
  ⟨hm ▸ h.memWf, fun c hcell => h.memAddr c (hm ▸ hcell), he ▸ h.eramWf,
    fun c hcell => hc ▸ h.eramAddr c (he ▸ hcell)⟩

/-- A write of `mem` inside the storage keeps it. -/
theorem StorageWf.write_mem {s : State} (h : StorageWf s) {n : Nat} (hn : isMemAddr n = true) (v : Byte) :
    StorageWf { s with mem := Memory.write s.mem n v } := by
  refine ⟨Memory.write_wf h.memWf n v, fun c hc => ?_, h.eramWf, h.eramAddr⟩
  rcases Memory.mem_write hc with hc | rfl
  · exact h.memAddr c hc
  · exact hn

/-- A write of external RAM inside its size keeps it. -/
theorem StorageWf.write_eram {s : State} (h : StorageWf s) {n : Nat} (hn : n < eramSize s.cart) (v : Byte) :
    StorageWf { s with eram := Memory.write s.eram n v } := by
  refine ⟨h.memWf, h.memAddr, Memory.write_wf h.eramWf n v, fun c hc => ?_⟩
  rcases Memory.mem_write hc with hc | rfl
  · exact h.eramAddr c hc
  · exact hn

/-- The external RAM window reaches cells of the cartridge's RAM only (R131, R134, R140, R146, R152). -/
theorem eramIndex_lt {c : Cart} {m : Mbc} {off i : Nat} (ho : off < 0x2000) (h : eramIndex c m off = some i) :
    i < eramSize c := by
  have bank : ∀ b n : Nat, n ≠ 0 → (b % n) * 0x2000 + off < n * 8192 := fun b n hn => by
    have := Nat.mod_lt b (Nat.pos_of_ne_zero hn)
    omega
  unfold eramIndex at h
  unfold eramSize
  split at h
  · cases h
  · split at h
    · injection h with h; subst h; simp_all
    · cases h
  · split at h
    · injection h with h; subst h; simp_all; omega
    · cases h
  · split at h
    · injection h with h; subst h; simp_all
    · cases h

/-- A write through the external RAM window keeps the storage. -/
theorem StorageWf.cartRamWrite {s : State} (h : StorageWf s) {off : Nat} (ho : off < 0x2000) (v : Byte) :
    StorageWf (cartRamWrite s off v) := by
  unfold Machine.cartRamWrite
  split
  · exact h.write_eram (eramIndex_lt ho ‹_›) _
  · split
    · exact h.congr rfl rfl rfl
    · exact h

/-- A control write keeps the storage. -/
theorem StorageWf.cartControlWrite {s : State} (h : StorageWf s) (n : Nat) (v : Byte) :
    StorageWf (cartControlWrite s n v) := by
  unfold Machine.cartControlWrite
  split
  · exact h
  · exact h.congr rfl rfl rfl
  · exact h.congr rfl rfl rfl
  · unfold mbc3Control
    split
    · exact h.congr rfl rfl rfl
    · split
      · exact h.congr rfl rfl rfl
      · split
        · exact h.congr rfl rfl rfl
        · split <;> exact h.congr rfl rfl rfl

/-- A bus read keeps the storage. -/
theorem StorageWf.afterRead {s : State} (h : StorageWf s) (a : Word) : StorageWf (afterRead s a) := by
  unfold Machine.afterRead
  split
  · exact h.congr rfl rfl rfl
  · exact h

/-- The object-attribute DMA keeps the storage. -/
theorem StorageWf.dmaCopy {s : State} (h : StorageWf s) (v : Byte) : StorageWf (dmaCopy s v) := by
  have fold : ∀ (l : List Nat) (t : State), (∀ i ∈ l, i < 160) → StorageWf t → StorageWf (l.foldl (dmaByte v) t) := by
    intro l
    induction l with
    | nil => intro t _ ht; exact ht
    | cons i l ih =>
      intro t hl ht
      refine ih _ (fun j hj => hl j (List.mem_cons_of_mem _ hj)) ?_
      have hi : i < 160 := hl i List.mem_cons_self
      have hw := ht.write_mem (n := 0xFE00 + i) (by simp [isMemAddr]; omega) (rawRead t (mkWord v 0#8 + BitVec.ofNat 16 i))
      exact ⟨hw.memWf, hw.memAddr, (ht.afterRead _).eramWf, (ht.afterRead _).eramAddr⟩
  exact fold _ _ (fun i hi => List.mem_range.mp hi) h

/-- A register write keeps the storage. -/
theorem StorageWf.regWrite {s : State} (h : StorageWf s) (v : Byte) (r : IoReg) : StorageWf (regWrite s v r) := by
  cases r
  case dma => exact StorageWf.dmaCopy (s := withLcd s { s.lcd with dma := v }) (h.congr rfl rfl rfl) v
  case boot =>
    change StorageWf (if v = 0x01#8 then { s with bootOverlay := false } else s)
    split; exacts [h.congr rfl rfl rfl, h]
  case ly => exact h
  all_goals exact h.congr rfl rfl rfl

/-- An I/O write keeps the storage. -/
theorem StorageWf.ioWrite {s : State} (h : StorageWf s) (n : Nat) (v : Byte) : StorageWf (ioWrite s n v) := by
  unfold Machine.ioWrite
  split
  · split
    · exact h
    · exact h.regWrite v _
  · split
    · rename_i hw
      exact h.write_mem (by simp [isWaveRam, isMemAddr] at *; omega) v
    · exact h

/-- A bus write keeps the storage. -/
theorem StorageWf.memWrite {s : State} (h : StorageWf s) (a : Word) (v : Byte) : StorageWf (memWrite s a v) := by
  have wr : ∀ n, isMemAddr n = true → StorageWf { s with mem := Memory.write s.mem n v } :=
    fun n hn => h.write_mem hn v
  simp only [isMemAddr, Bool.or_eq_true, Bool.and_eq_true, decide_eq_true_eq] at wr
  have ha : a.toNat < 65536 := a.isLt
  simp only [Machine.memWrite]
  split
  · exact h.cartControlWrite _ v
  · split
    · split
      · exact h
      · exact wr _ (by omega)
    · split
      · exact h.cartRamWrite (by omega) v
      · split
        · exact wr _ (by omega)
        · split
          · exact wr _ (by omega)
          · split
            · split
              · exact h
              · exact wr _ (by omega)
            · split
              · exact h
              · split
                · exact h.ioWrite _ v
                · split
                  · exact wr _ (by omega)
                  · exact h.congr rfl rfl rfl

/-- A push keeps the storage. -/
theorem StorageWf.push16 {s : State} (h : StorageWf s) (w : Word) : StorageWf (push16 s w) := by
  have step : ∀ (t : State) (x a : Word) (v : Byte), StorageWf t → StorageWf (Machine.memWrite (setSP t x) a v) :=
    fun t x a v ht => StorageWf.memWrite (s := setSP t x) (ht.congr rfl rfl rfl) a v
  simp only [Machine.push16]
  exact step _ _ _ _ (step _ _ _ _ h)

/-- A pop keeps the storage. -/
theorem StorageWf.pop16 {s : State} (h : StorageWf s) : StorageWf (pop16 s).2 := by
  rw [pop16_eq]
  exact ((h.afterRead _).afterRead _).congr rfl rfl rfl

/-- The reset state's memories. -/
theorem StorageWf.reset : StorageWf State.reset :=
  ⟨Memory.wf_nil, by simp [State.reset], Memory.wf_nil, by simp [State.reset]⟩

end Sys2Proof.Machine
end

