-- ==== Sys2Proof/Tests/Slice0.lean ====
section
/-! SUPPORT. Tests: the well-formedness smoke, decodings written out from the spec's encoding tables, the vectors of
95_test_vectors.md, and for every statement with hypotheses a state and operands that meet them. -/

namespace Sys2Proof.Tests

open Sys2Proof.Machine Sys2Proof.Claims

/-! ## Helpers -/

/-- A part of the next state of an answer; `none` for a fault or a refusal. -/
def look {α : Type} (f : State → α) : Result → Option α
  | .next s => some (f s)
  | .fault _ => none
  | .refused _ => none

/-- Running in working RAM at 0xC000 with these bytes there, no boot overlay, display off, SP at 0xD000. -/
def ram (bytes : List Byte) : State :=
  { State.reset with
    bootOverlay := false
    regs := { State.reset.regs with pc := 0xC000#16, sp := 0xD000#16 }
    mem := Memory.ofBytes 0xC000 bytes }

/-- `ram []` with these registers. -/
def withRegs (r : Regs) : State := { ram [] with regs := r }

/-- The registers of `ram []`. -/
def r0 : Regs := (ram []).regs

/-- A and F after an instruction. -/
def af (r : Result) : Option (Byte × Byte) := look (fun t => (t.regs.a, t.regs.f)) r

/-- PC and the cycles after a step. -/
def pcCost (r : Result) : Option (Word × Nat) := look (fun t => (t.regs.pc, t.cycles)) r

/-! ## Well-formedness smoke: one term or byte list for each check -/

theorem test_wellformed_legal : (Instr.ld_B_d8 0x12#8).wellFormed = true := by decide
theorem test_wellformed_refuses_D3 : Instr.illegal_D3.wellFormed = false := by decide
theorem test_wellformed_refuses_FD : Instr.illegal_FD.wellFormed = false := by decide
theorem test_code_accepts : wellFormedCode [0xCD#8, 0x34#8, 0x12#8] = true := by decide
theorem test_code_refuses_empty : wellFormedCode [] = false := by decide
theorem test_code_refuses_short : wellFormedCode [0xCD#8, 0x34#8] = false := by decide
theorem test_code_refuses_long : wellFormedCode [0x00#8, 0x00#8] = false := by decide
theorem test_code_refuses_illegal : wellFormedCode [0xED#8] = false := by decide
theorem test_decode_refuses_empty : decode [] = .error .noByte := rfl
theorem test_decode_refuses_short : decode [0xCB#8] = .error (.truncated 0xCB#8) := rfl

/-! ## Decoding: words written out from R171 to R178 -/

theorem test_decode_load : decode [0b01010000#8] = .ok (.ld_D_B, []) := rfl
theorem test_decode_load_mem : decode [0b01111110#8] = .ok (.ld_A_mHL, []) := rfl
theorem test_decode_store_imm : decode [0b00110110#8, 0x5A#8] = .ok (.ld_mHL_d8 0x5A#8, []) := rfl
theorem test_decode_pair : decode [0b00100001#8, 0x34#8, 0x12#8] = .ok (.ld_HL_d16 0x1234#16, []) := rfl
theorem test_decode_store_sp : decode [0x08#8, 0x00#8, 0xC1#8] = .ok (.ld_mA16_SP 0xC100#16, []) := rfl
theorem test_decode_high_page : decode [0xE0#8, 0x26#8] = .ok (.ldh_mA8_A 0x26#8, []) := rfl
theorem test_decode_pop : decode [0b11110001#8] = .ok (.pop_AF, []) := rfl
theorem test_decode_alu : decode [0b10011110#8] = .ok (.sbc_A_mHL, []) := rfl
theorem test_decode_alu_imm : decode [0b11101110#8, 0xFF#8] = .ok (.xor_d8 0xFF#8, []) := rfl
theorem test_decode_inc : decode [0b00111100#8] = .ok (.inc_A, []) := rfl
theorem test_decode_daa : decode [0b00100111#8] = .ok (.daa, []) := rfl
theorem test_decode_wide : decode [0b00101011#8] = .ok (.dec_HL, []) := rfl
theorem test_decode_rotate : decode [0b00011111#8] = .ok (.rra, []) := rfl
theorem test_decode_extended : decode [0xCB#8, 0b00101110#8] = .ok (.sra_mHL, []) := rfl
theorem test_decode_bit : decode [0xCB#8, 0b01011110#8] = .ok (.bit_3_mHL, []) := rfl
theorem test_decode_set_prefix_twice : decode [0xCB#8, 0xCB#8] = .ok (.set_1_E, []) := rfl
theorem test_decode_call : decode [0b11010100#8, 0x34#8, 0x12#8] = .ok (.call_NC_a16 0x1234#16, []) := rfl
theorem test_decode_ret : decode [0b11001000#8] = .ok (.ret_Z, []) := rfl
theorem test_decode_rst : decode [0b11111111#8] = .ok (.rst_0x38, []) := rfl
theorem test_decode_ei : decode [0b11111011#8] = .ok (.ei, []) := rfl
theorem test_decode_illegal : decode [0xFC#8] = .ok (.illegal_FC, []) := rfl
theorem test_table_word_extended : decodeTableWord 16 0xCB37 = some .swap_A := rfl
theorem test_table_word_plain : decodeTableWord 8 0x01 = some (.ld_BC_d16 0x0000#16) := rfl
theorem test_fetch_word_runs :
    look (fun t => t.runState) (step (State.reset.withFetchWord 8 0x76)) = some .halted := by decide

/-! ## Vectors: loads (95_test_vectors.md section 2) -/

theorem test_L3_store_to_ie :
    look (fun t => (t.ie, getHL t)) (exec .ld_mHLI_A (withRegs { r0 with h := 0xFF#8, l := 0xFF#8, a := 0x1F#8 }))
      = some (0x1F#8, 0x0000#16) := by decide
theorem test_L5_store_sp :
    look (fun t => (memRead t 0xC100#16, memRead t 0xC101#16, t.cycles))
      (exec (.ld_mA16_SP 0xC100#16) (withRegs { r0 with sp := 0xFFF8#16 })) = some (0xF8#8, 0xFF#8, 20) := by decide
theorem test_L7_hl_from_sp :
    look (fun t => (getHL t, t.regs.f)) (exec (.ld_HL_SPe8 0x01#8) (withRegs { r0 with sp := 0x00FF#16 }))
      = some (0x0100#16, 0x30#8) := by decide
theorem test_L8_hl_from_sp_minus :
    look (fun t => (getHL t, t.regs.f)) (exec (.ld_HL_SPe8 0xFF#8) (withRegs { r0 with sp := 0x0000#16 }))
      = some (0xFFFF#16, 0x00#8) := by decide
theorem test_L9_push_wraps_to_ie :
    look (fun t => (t.ie, memRead t 0xFFFE#16, t.regs.sp))
      (exec .push_BC (withRegs { r0 with sp := 0x0000#16, b := 0x12#8, c := 0x34#8 }))
      = some (0x12#8, 0x34#8, 0xFFFE#16) := by decide
theorem test_L12_pop_reads_ie :
    look (fun t => (getHL t, t.regs.sp))
      (exec .pop_HL { ram [] with ie := 0x05#8, mem := [(0xFFFE, 0x78#8)], regs := { r0 with sp := 0xFFFE#16 } })
      = some (0x0578#16, 0x0000#16) := by decide
theorem test_L10_pop_af_masks :
    af (exec .pop_AF { ram [] with mem := [(0xD000, 0xFF#8), (0xD001, 0x12#8)] }) = some (0x12#8, 0xF0#8) := by decide

/-! ## Vectors: arithmetic (section 3) -/

theorem test_A6_add : af (exec (.add_A_d8 0xC6#8) (withRegs { r0 with a := 0x3A#8 })) = some (0x00#8, 0xB0#8) := by decide
theorem test_A8_adc :
    af (exec (.adc_A_d8 0xFF#8) (withRegs { r0 with a := 0x0F#8, f := 0x10#8 })) = some (0x0F#8, 0x30#8) := by decide
theorem test_A11_sub : af (exec (.sub_d8 0x01#8) (withRegs { r0 with a := 0x00#8 })) = some (0xFF#8, 0x70#8) := by decide
theorem test_A16_sbc :
    af (exec (.sbc_A_d8 0x0F#8) (withRegs { r0 with a := 0x10#8, f := 0x10#8 })) = some (0x00#8, 0xE0#8) := by decide
theorem test_A20_and : af (exec (.and_d8 0x0F#8) (withRegs { r0 with a := 0xF0#8 })) = some (0x00#8, 0xA0#8) := by decide
theorem test_A21_xor :
    af (exec .xor_A (withRegs { r0 with a := 0x5A#8, f := 0x10#8 })) = some (0x00#8, 0x80#8) := by decide
theorem test_A25_cp : af (exec (.cp_d8 0x40#8) (withRegs { r0 with a := 0x3C#8 })) = some (0x3C#8, 0x50#8) := by decide
theorem test_A26_inc :
    look (fun t => (t.regs.b, t.regs.f)) (exec .inc_B (withRegs { r0 with b := 0xFF#8, f := 0x10#8 }))
      = some (0x00#8, 0xB0#8) := by decide
theorem test_A32_inc_div :
    look (fun t => (t.timer.div, t.regs.f))
      (exec .inc_mHL { ram [] with
        regs := { r0 with h := 0xFF#8, l := 0x04#8 }, timer := { (ram []).timer with div := 0x20#8 } })
      = some (0x00#8, 0x00#8) := by decide
theorem test_A34_daa : af (exec .daa (withRegs { r0 with a := 0x7D#8 })) = some (0x83#8, 0x00#8) := by decide
theorem test_A42_daa : af (exec .daa (withRegs { r0 with a := 0xFF#8, f := 0x70#8 })) = some (0x99#8, 0x50#8) := by decide
theorem test_ccf : af (exec .ccf (withRegs { r0 with f := 0x70#8 })) = some (0x00#8, 0x00#8) := by decide
theorem test_W3_add_hl :
    look (fun t => (getHL t, t.regs.f)) (exec .add_HL_HL (withRegs { r0 with h := 0x80#8, f := 0x80#8 }))
      = some (0x0000#16, 0x90#8) := by decide
theorem test_W11_add_sp :
    look (fun t => (t.regs.sp, t.regs.f)) (exec (.add_SP_e8 0xFF#8) (withRegs { r0 with sp := 0xFFF8#16 }))
      = some (0xFFF7#16, 0x30#8) := by decide

/-! ## Vectors: rotates and bits (section 5) -/

theorem test_B2_rlca : af (exec .rlca (withRegs { r0 with f := 0x80#8 })) = some (0x00#8, 0x00#8) := by decide
theorem test_B5_rra : af (exec .rra (withRegs { r0 with f := 0x10#8 })) = some (0x80#8, 0x00#8) := by decide
theorem test_B8_rl :
    look (fun t => (t.regs.e, t.regs.f)) (exec .rl_E (withRegs { r0 with e := 0x80#8 })) = some (0x00#8, 0x90#8) := by
  decide
theorem test_B9_sra :
    look (fun t => (t.regs.b, t.regs.f)) (exec .sra_B (withRegs { r0 with b := 0x80#8 })) = some (0xC0#8, 0x00#8) := by
  decide
theorem test_B12_swap : af (exec .swap_A (withRegs { r0 with a := 0x12#8, f := 0x10#8 })) = some (0x21#8, 0x00#8) := by
  decide
theorem test_B15_bit :
    look (fun t => (t.regs.f, t.cycles))
      (exec .bit_2_mHL { ram [0x08#8] with regs := { r0 with h := 0xC0#8, f := 0x10#8 } }) = some (0xB0#8, 12) := by decide
theorem test_B18_set_blocked :
    look (fun t => Memory.read t.mem 0x8000)
      (exec .set_0_mHL { ram [] with
        regs := { r0 with h := 0x80#8 }, lcd := { (ram []).lcd with lcdc := 0x80#8, stat := 0x03#8 } })
      = some 0x00#8 := by decide

/-! ## Vectors: control transfer (section 6), as steps from 0xC000 -/

theorem test_J3_jr_back : pcCost (step (ram [0x18#8, 0x80#8])) = some (0xBF82#16, 12) := by decide
theorem test_J6_jp_not_taken : pcCost (step (ram [0xDA#8, 0x34#8, 0x12#8])) = some (0xC003#16, 12) := by decide
theorem test_J8_call :
    look (fun t => (memRead t 0xCFFF#16, memRead t 0xCFFE#16, t.regs.sp, t.regs.pc))
      (step (ram [0xCD#8, 0x34#8, 0x12#8])) = some (0xC0#8, 0x03#8, 0xCFFE#16, 0x1234#16) := by decide
theorem test_J14_rst :
    look (fun t => (memRead t 0xCFFE#16, t.regs.pc, t.cycles)) (step (ram [0xFF#8]))
      = some (0x01#8, 0x0038#16, 16) := by decide
theorem test_J13_reti :
    look (fun t => (t.ime, t.eiDelay, t.regs.sp)) (step (ram [0xD9#8])) = some (true, 0, 0xD002#16) := by decide

/-! ## Vectors: system, interrupts, timer (sections 7 and 8) -/

theorem test_X8_illegal :
    look (fun t => (t.runState, t.regs.pc)) (step (ram [0xD3#8]))
      = some (.faulted (.illegalOpcode 0xD3#8 0xC000#16), 0xC001#16) := by decide
theorem test_X7_stop :
    look (fun t => (t.runState, t.regs.pc, t.timer.div, t.timer.divAcc))
      (step { ram [0x10#8, 0x00#8] with timer := { (ram []).timer with div := 0x44#8 } })
      = some (.stopped, 0xC002#16, 0x00#8, 4) := by decide
theorem test_T1_dispatch :
    look (fun t => (memRead t 0xCFFF#16, memRead t 0xCFFE#16, t.regs.pc, memRead t 0xFF0F#16))
      (step { ram [] with ime := true, ie := 0x1F#8, iflag := 0x06#5, regs := { r0 with pc := 0x1234#16 } })
      = some (0x12#8, 0x34#8, 0x0048#16, 0xE4#8) := by decide
theorem test_X6_halt_bug :
    look (fun t => (t.runState, t.haltBugPending)) (step { ram [0x76#8] with ie := 0x04#8, iflag := 0x04#5 })
      = some (.running, true) := by decide
theorem test_T5_timer :
    look (fun t => (t.timer.tima, t.timer.timaAcc))
      (.next (timerStep 12 { ram [] with timer := { (ram []).timer with tac := 5#3, timaAcc := 500, tima := 0x10#8 } }))
      = some (0x30#8, 0) := by decide
theorem test_T6_reload :
    look (fun t => (t.timer.tima, t.iflag))
      (.next (timerStep 4 { ram [] with
        timer := { (ram []).timer with tac := 5#3, timaAcc := 12, tima := 0xFF#8, tma := 0x80#8 } }))
      = some (0x80#8, 0b00100#5) := by decide
theorem test_T9_input :
    look (fun t => (memRead t 0xFF00#16, t.iflag, t.joyPrev))
      (.next (sampleInput { ram [] with p1Sel := 2#2, host := { HostIn.quiet with buttons := ⟨⟨7#4, 0xF#4⟩, []⟩ } }))
      = some (0xE7#8, 0b10000#5, 7#4) := by decide

/-! ## Vectors: bank controllers, display, sound, loading (section 9) -/

/-- An MBC1 cartridge of 64 banks and 4 RAM banks. -/
def mbc1 : State := { ram [] with cart := { (ram []).cart with mbcType := .mbc1, romBanks := 64, ramBanks := 4 } }

/-- An MBC2 cartridge. -/
def mbc2 : State := { ram [] with cart := { (ram []).cart with mbcType := .mbc2 } }

/-- An MBC3 cartridge with 4 RAM banks, RAM enabled, the clock of vector M8. -/
def mbc3 : State :=
  { ram [] with
    cart := { (ram []).cart with mbcType := .mbc3, ramBanks := 4 }
    mbc := { (ram []).mbc with
      ramEnable := true, ramSel := 0x08#8, rtcAnchor := 1000, rtcLive := ⟨58#8, 59#8, 23#8, 0xFF#8, 0x01#8⟩ }
    host := { HostIn.quiet with rtcNow := ⟨1003, []⟩ } }

theorem test_M5_bank1 : (memWrite mbc1 0x2000#16 0x00#8).mbc.bank1 = 1#5 := by decide
theorem test_M7_mbc2_cells :
    memRead (memWrite { mbc2 with mbc := { mbc2.mbc with ramEnable := true } } 0xA000#16 0xAB#8) 0xA200#16 = 0xFB#8 := by
  decide
theorem test_M8_clock :
    (memWrite (memWrite mbc3 0x6000#16 0x00#8) 0x6000#16 0x01#8).mbc.rtcLatched = ⟨1#8, 0#8, 0#8, 0x00#8, 0x80#8⟩ := by
  decide
/-- R147, R592, R602: the saved registers come back within their fields; the save holds registers and anchor. -/
theorem test_R147_saved_clock_fields :
    initialClock (some ⟨⟨0xFF#8, 0xC1#8, 0xFF#8, 0xFF#8, 0xFF#8⟩, 7⟩) = ⟨0x3F#8, 0x01#8, 0x1F#8, 0xFF#8, 0xC1#8⟩ := by decide
theorem test_R592_saved_clock_needs_ram :
    saveClockValue { mbc3 with cart := { mbc3.cart with ramBanks := 0 } } = none ∧ saveClockValue mbc1 = none := by decide
theorem test_R592_saved_clock : saveClockValue mbc3 = some ⟨⟨58#8, 59#8, 23#8, 0xFF#8, 0x01#8⟩, 1000⟩ := by
  have h : eramSize mbc3.cart ≠ 0 := by decide
  simp only [saveClockValue, saveData, if_neg h]
  rfl
theorem test_R431_runtime_code : (FatalReason.illegalOpcode 0xD3#8 0x0100#16).code = 0x01#8 := by decide
theorem test_S4_scanline_wrap :
    look (fun t => (t.lcd.ly, t.lcd.lineCycles, lcdMode t, t.iflag))
      (.next (displayStep 4 { ram [] with
        lcd := { (ram []).lcd with lcdc := 0x80#8, ly := 153#8, lineCycles := 452, stat := 0x21#8, lyc := 7#8 } }))
      = some (0#8, 0, 2#2, 0b00010#5) := by decide
theorem test_DS4_pixel :
    pixelShade [(0x8000, 0x80#8), (0x8001, 0x80#8)] { (ram []).lcd with lcdc := 0x91#8, bgp := 0xE4#8 } 0 0 = 3#2 := by decide
theorem test_S7_trigger :
    let d := (memWrite { ram [] with
      sound := { Sound.zero with master := true, ch2 := { Square.zero with nrx2 := 0xF0#8 } } } 0xFF19#16 0x80#8)
    (d.sound.ch2.core.length, memRead d 0xFF26#16) = (64, 0xF2#8) := by decide
theorem test_S12_lfsr : shiftLfsr 0x7FFF#15 0x08#8 = 0x3FBF#15 := by decide
theorem test_S6_checksum :
    loadCartridge (some ⟨0x8000, []⟩) [] = .error (.badChecksum 0x00#8 0xE7#8) := by rfl
theorem test_S9_serial_disconnected :
    let t := serialTicks 8 { ram [] with serial := ⟨0x42#8, 0x81#8, 0, 0⟩ }
    (t.serial.sb, memRead t 0xFF02#16, t.iflag) = (0xFF#8, 0x7F#8, 0b01000#5) := by decide

/-! ## Witnesses: states and operands that meet the hypotheses of the statements -/

/-- A step's answer meets a condition. -/
def steps (s : State) (f : State → Bool) : Bool := (look f (step s)).getD false

theorem steps_next {s : State} {f : State → Bool} (h : steps s f = true) : ∃ t, step s = .next t ∧ f t = true := by
  unfold steps look at h
  split at h
  · exact ⟨_, ‹_›, h⟩
  · cases h
  · cases h

theorem all_mem {l : List Word} {f : Word → Bool} (h : l.all f = true) : ∀ a ∈ l, f a = true := List.all_eq_true.mp h

theorem witness_EncodeOfDecode : decode [0x3E#8, 0x5A#8, 0x76#8] = .ok (.ld_A_d8 0x5A#8, [0x76#8]) := rfl

theorem witness_IllegalOpcodesAreFatal :
    0xD3#8 ∈ [0xD3#8, 0xDB#8, 0xDD#8, 0xE3#8, 0xE4#8, 0xEB#8] ++ [0xEC#8, 0xED#8, 0xF4#8, 0xFC#8, 0xFD#8]
      ∧ 0xD4#8 ∉ [0xD3#8, 0xDB#8, 0xDD#8, 0xE3#8, 0xE4#8, 0xEB#8] ++ [0xEC#8, 0xED#8, 0xF4#8, 0xFC#8, 0xFD#8]
      ∧ isFaulted State.reset = false := by decide

theorem witness_LoadForms : ¬((7#3 : BitVec 3) = 6#3 ∧ (6#3 : BitVec 3) = 6#3) := by decide

theorem witness_PopReturnsPushed :
    Memory.wf (ram []).mem ∧ (∀ a ∈ pushAddrs (ram []), storable (ram []) a = true) :=
  ⟨by decide, all_mem (by decide)⟩

theorem witness_PopReturnsPushed_hram :
    ∀ a ∈ pushAddrs (withRegs { r0 with sp := 0xFFFF#16 }), storable (withRegs { r0 with sp := 0xFFFF#16 }) a = true :=
  all_mem (by decide)

theorem witness_DecimalAdjustCorrectsBcd :
    (withRegs { r0 with a := 0x99#8 }).regs.a = packedDecimal 99 ∧ (99 : Nat) < 100 := by decide

theorem witness_SystemInstructions_halts :
    (ram []).ime = true ∨ ¬((ram []).ie &&& (0#3 ++ (ram []).iflag) ≠ 0#8) := by decide

theorem witness_SystemInstructions_haltBug :
    let s := { ram [] with ie := 0x04#8, iflag := 0b00100#5 }
    s.ime = false ∧ s.ie &&& (0#3 ++ s.iflag) ≠ 0#8 ∧ s.haltBug = true := by decide

theorem witness_SystemInstructions_noHaltBug :
    let s := { ram [] with ie := 0x04#8, iflag := 0b00100#5, haltBug := false }
    s.ime = false ∧ s.ie &&& (0#3 ++ s.iflag) ≠ 0#8 ∧ s.haltBug = false := by decide

theorem witness_EveryLegalInstructionCompletes :
    Instr.wellFormed (.call_a16 0x1234#16) = true ∧ isFaulted (ram []) = false := by decide

theorem witness_MemoryFrame :
    let s := withRegs { r0 with h := 0xC0#8 }
    Memory.wf s.mem ∧ (∃ t, exec .ld_mHL_A s = .next t) ∧ (∀ a ∈ storeAddrs s .ld_mHL_A, storable s a = true)
      ∧ 0xFF04#16 ≠ 0xFF00#16 ∧ (∀ v, Instr.ld_mHL_A ≠ .stop v)
      ∧ (∀ a ∈ storeAddrs s .ld_mHL_A, ramCell 0xFF04#16 ≠ ramCell a) :=
  ⟨by decide, exec_next _ _, all_mem (by decide), by decide, (nofun), fun a h => by
    rw [List.mem_singleton.mp h]; decide⟩

theorem witness_MemoryFrame_stop :
    (∃ t, exec (.stop 0#8) (ram []) = .next t) ∧ storeAddrs (ram []) (.stop 0#8) = [] := ⟨exec_next _ _, rfl⟩

theorem witness_NonStoringFrame :
    (∃ t, exec .add_A_mHL (ram []) = .next t) ∧ storeAddrs (ram []) .add_A_mHL = [] ∧ controlInstr .add_A_mHL = false :=
  ⟨exec_next _ _, rfl, rfl⟩

theorem witness_ControlStateFrame :
    (∃ t, exec (.push_BC) (ram []) = .next t) ∧ controlInstr .push_BC = false := ⟨exec_next _ _, rfl⟩

/-- `ld_A_d8 0x5A` at 0xC000. -/
def program : State := ram [0x3E#8, 0x5A#8]

theorem witness_StepRunsTheDecodedInstruction :
    (program.runState = .running ∧ program.haltBugPending = false ∧ program.ime = false)
      ∧ decode [memRead program program.regs.pc, memRead program (program.regs.pc + 1#16),
          memRead program (program.regs.pc + 2#16)] = .ok (.ld_A_d8 0x5A#8, [0x00#8]) := ⟨by decide, rfl⟩

theorem witness_StepRuns_imeSet :
    let s := { program with ime := true, iflag := 0x1F#5 }
    s.ime = true ∧ pendingLines s = 0#5 := by decide

theorem witness_HaltBugReadsTheByteTwice :
    let s := { program with haltBugPending := true }
    (s.runState = .running ∧ s.haltBugPending = true ∧ s.ime = false)
      ∧ decode [memRead s s.regs.pc, memRead (afterRead s s.regs.pc) s.regs.pc, memRead s (s.regs.pc + 1#16)]
          = .ok (.ld_A_d8 0x3E#8, [0x5A#8]) := ⟨by decide, rfl⟩

theorem witness_DispatchTakesTheLowestLine :
    let s := { program with ime := true, ie := 0x19#8, iflag := 0b11110#5 }
    (s.runState = .running ∧ s.ime = true ∧ s.ie.getLsbD 3 = true ∧ s.iflag.getLsbD 3 = true)
      ∧ ∀ j, j < 3 → ¬(s.ie.getLsbD j = true ∧ s.iflag.getLsbD j = true) := by decide

theorem witness_DispatchTakesTheLowestLine_last :
    let s := { program with ime := true, ie := 0x10#8, iflag := 0b11111#5 }
    (s.ie.getLsbD 4 = true ∧ s.iflag.getLsbD 4 = true) ∧ ∀ j, j < 4 → ¬(s.ie.getLsbD j = true ∧ s.iflag.getLsbD j = true) := by
  decide

theorem witness_HaltedStep :
    let s := { program with runState := .halted }
    s.runState = .halted ∧ s.ie.extractLsb' 0 5 &&& s.iflag = 0#5 := by decide

theorem witness_HaltedStep_wakes :
    let s := { program with runState := .halted, ie := 0xFF#8, iflag := 0b10000#5 }
    s.runState = .halted ∧ s.ie.extractLsb' 0 5 &&& s.iflag ≠ 0#5 := by decide

theorem witness_StoppedStep :
    let s := { program with runState := .stopped }
    s.runState = .stopped ∧ s.host.buttons.now = ⟨0xF#4, 0xF#4⟩ := by decide

theorem witness_StoppedStep_wakes :
    let s := { program with runState := .stopped, host := { HostIn.quiet with buttons := ⟨⟨0xF#4, 7#4⟩, []⟩ } }
    s.runState = .stopped ∧ s.host.buttons.now ≠ ⟨0xF#4, 0xF#4⟩ := by decide

theorem witness_StepStopsOnlyWhenFaulted :
    ({ program with runState := .faulted (.illegalOpcode 0xD3#8 0xC000#16) }).runState
        = .faulted (.illegalOpcode 0xD3#8 0xC000#16)
      ∧ isFaulted program = false := by decide

theorem witness_IllegalOpcodeStep :
    let s := ram [0xED#8]
    s.runState = .running ∧ s.haltBugPending = false ∧ s.ime = false
      ∧ memRead s s.regs.pc ∈ [0xD3#8, 0xDB#8, 0xDD#8, 0xE3#8, 0xE4#8, 0xEB#8] ++ [0xEC#8, 0xED#8, 0xF4#8, 0xFC#8, 0xFD#8] := by
  decide

theorem witness_EnableTakesEffect_ei :
    let s := ram [0xFB#8]
    s.runState = .running ∧ s.haltBugPending = false ∧ s.ime = false ∧ s.eiDelay = 0 ∧ memRead s s.regs.pc = 0xFB#8 := by
  decide

theorem witness_EnableTakesEffect_next :
    let s := { program with eiDelay := 1 }
    (s.runState = .running ∧ s.haltBugPending = false ∧ s.ime = false ∧ s.eiDelay = 1)
      ∧ decode [memRead s s.regs.pc, memRead s (s.regs.pc + 1#16), memRead s (s.regs.pc + 2#16)]
          = .ok (.ld_A_d8 0x5A#8, [0x00#8])
      ∧ controlInstr (.ld_A_d8 0x5A#8) = false := ⟨by decide, rfl, rfl⟩

theorem witness_PowerOnMeetsInv_bootRom : ∃ s, powerOn Params.default HostIn.quiet = .ok s := ⟨_, rfl⟩

theorem witness_PowerOnState_skipBoot :
    ∃ s, powerOn { Params.default with bootMode := .skipBoot } HostIn.quiet = .ok s := ⟨_, rfl⟩

theorem witness_PowerOnState_savedClock :
    let c : SavedClock := ⟨⟨0x3B#8, 0#8, 0#8, 0#8, 0xFE#8⟩, 5⟩
    ∃ s, powerOn { Params.default with saveClock := some c } HostIn.quiet = .ok s := ⟨_, rfl⟩

theorem witness_PowerOnState_waveRam : 0xFF30 ≤ 0xFF3F ∧ Params.default.bootMode = .bootRom [] := by decide

theorem reset_steps : ∃ t, step State.reset = .next t :=
  (steps_next (f := fun _ => true) (by decide)).imp fun _ h => h.1

theorem witness_StepKeepsTheStorage : StorageWf State.reset ∧ ∃ t, step State.reset = .next t := ⟨StorageWf.reset, reset_steps⟩

/-- The state after reset meets the invariants, clause by clause. -/
theorem witness_StepKeepsInv : Inv State.reset ∧ ∃ t, step State.reset = .next t :=
  ⟨{ flags := by unfold FlagsWf; decide
     storage := StorageWf.reset
     enable := ⟨by decide, by decide⟩
     banks := ⟨by decide, by decide, by decide⟩
     clock := ⟨⟨by decide, by decide, by decide, by decide⟩, ⟨by decide, by decide, by decide, by decide⟩⟩
     counters := ⟨by decide, by decide, by decide, by decide, by decide⟩
     display := ⟨by decide, by decide, rfl, rfl, fun row h => (List.eq_of_mem_replicate h) ▸ rfl⟩
     sound := ⟨by decide, by decide, by decide, by decide, by decide, by decide, by decide, by decide, by decide⟩ }, reset_steps⟩

theorem witness_LoadTimeStateKept : program.bootOverlay = false ∧ steps program (fun _ => true) = true := by decide

theorem witness_PendingLinesStay :
    let s := { program with iflag := 0b10000#5 }
    (s.runState = .running ∧ s.haltBugPending = false ∧ s.ime = false ∧ 0xFF0F#16 ∉ storeAddrs s (.ld_A_d8 0x5A#8)
      ∧ s.iflag.getLsbD 4 = true ∧ steps s (fun _ => true) = true)
      ∧ decode [memRead s s.regs.pc, memRead s (s.regs.pc + 1#16), memRead s (s.regs.pc + 2#16)]
          = .ok (.ld_A_d8 0x5A#8, [0x00#8]) := ⟨by decide, rfl⟩

theorem witness_DisplayRegisters_on :
    steps { program with lcd := { program.lcd with lcdc := 0x80#8, lineCycles := 70 } }
      (fun t => !isFaulted t && t.lcd.lcdc.getLsbD 7) = true := by decide

theorem witness_DisplayRegisters_off : steps program (fun t => !isFaulted t && !t.lcd.lcdc.getLsbD 7) = true := by decide

theorem witness_FrameDelivered :
    steps { program with lcd := { program.lcd with lcdc := 0x80#8, ly := 143#8, lineCycles := 455 } }
      (fun t => !isFaulted t && (deliveredFrame t).isSome) = true := by decide

theorem witness_RamAndDisplayGating_owned :
    displayOwns { ram [] with lcd := { (ram []).lcd with lcdc := 0x80#8, stat := 0x03#8 } } 0x9FFF#16
      ∧ displayOwns { ram [] with lcd := { (ram []).lcd with lcdc := 0x80#8, stat := 0x02#8 } } 0xFE9F#16 := by
  unfold displayOwns; decide

theorem witness_RamAndDisplayGating_free :
    ¬displayOwns (ram []) 0xFDFF#16 ∧ Memory.wf (ram []).mem ∧ ramCell 0xFDFF#16 = some 0xDDFF := by
  unfold displayOwns; decide

theorem witness_RamAndDisplayGating_raw : 0x8000 ≤ (0x9FFF#16).toNat ∧ (0x9FFF#16).toNat ≤ 0x9FFF := by decide

theorem witness_PlaceholdersAndOverlay :
    (0xFEA0 ≤ (0xFEFF#16).toNat ∧ (0xFEFF#16).toNat ≤ 0xFEFF) ∧ unmappedIo (0xFF7F#16).toNat
      ∧ State.reset.bootOverlay = true ∧ (0x00FF#16).toNat ≤ 0xFF ∧ 0x100 ≤ (0x0100#16).toNat := by
  unfold unmappedIo; decide

theorem witness_RegisterReadback :
    let s := { ram [] with sound := { Sound.zero with master := true } }
    Memory.wf s.mem ∧ s.sound.master = true ∧ 0xFF30 ≤ (0xFF3F#16).toNat ∧ (0xFF3F#16).toNat ≤ 0xFF3F := by decide

theorem witness_ObjectAttributeDma : Memory.wf (ram []).mem ∧ 159 < 160 ∧ (0xFDFF < 0xFE00 ∨ 0xFE9F < 0xFDFF) := by decide

theorem witness_Mbc1AndPlainCartridge :
    mbc1.cart.mbcType = .mbc1 ∧ (ram []).cart.mbcType = .none ∧ (mbc1.bootOverlay = false ∨ 0x100 ≤ (0x3FFF#16).toNat)
      ∧ (0x1FFF#16).toNat ≤ 0x1FFF ∧ 0x2000 ≤ (0x3FFF#16).toNat ∧ 0x4000 ≤ (0x5FFF#16).toNat
      ∧ 0x6000 ≤ (0x7FFF#16).toNat ∧ 0xA000 ≤ (0xBFFF#16).toNat ∧ (0xBFFF#16).toNat ≤ 0xBFFF
      ∧ (mbc1.mbc.ramEnable = false ∨ mbc1.cart.ramBanks = 0) := by decide

theorem witness_Mbc1_ram :
    let s := { mbc1 with mbc := { mbc1.mbc with ramEnable := true } }
    s.cart.mbcType = .mbc1 ∧ s.mbc.ramEnable = true ∧ s.cart.ramBanks ≠ 0 := by decide

theorem witness_Mbc2Cartridge :
    mbc2.cart.mbcType = .mbc2 ∧ (0x3EFF#16).getLsbD 8 = false ∧ (0x3FFF#16).getLsbD 8 = true ∧ (0x3FFF#16).toNat ≤ 0x3FFF
      ∧ mbc2.mbc.ramEnable = false ∧ ({ mbc2 with mbc := { mbc2.mbc with ramEnable := true } }).mbc.ramEnable = true := by
  decide

theorem witness_Mbc3Cartridge :
    mbc3.cart.mbcType = .mbc3 ∧ mbc3.mbc.ramEnable = true ∧ mbc3.mbc.ramSel = 0x08#8 ∧ mbc3.bootOverlay = false := by decide

theorem witness_Mbc3_ram :
    let s := { mbc3 with mbc := { mbc3.mbc with ramSel := 0x03#8 } }
    s.mbc.ramEnable = true ∧ s.mbc.ramSel.toNat ≤ 3 ∧ s.cart.ramBanks ≠ 0 := by decide

theorem witness_Mbc3_closed :
    let s := { mbc3 with mbc := { mbc3.mbc with ramSel := 0x0D#8 } }
    s.mbc.ramEnable = false ∨ (s.mbc.ramSel.toNat ≤ 3 ∧ s.cart.ramBanks = 0)
      ∨ (4 ≤ s.mbc.ramSel.toNat ∧ s.mbc.ramSel.toNat ≤ 7) ∨ 0x0D ≤ s.mbc.ramSel.toNat := by decide

theorem witness_ClockCountsSeconds :
    clockValid ⟨59#8, 59#8, 23#8, 0xFF#8, 0x01#8⟩ ∧ (63#8 : Byte) ≠ 59#8 ∧ (31#8 : Byte) ≠ 23#8 := by
  unfold clockValid; decide

theorem witness_TimerCounts :
    let s := { ram [] with timer := { (ram []).timer with tac := 5#3, divAcc := 255, timaAcc := 12 } }
    s.timer.divAcc < 256 ∧ s.timer.tac.getLsbD 2 = true ∧ s.timer.timaAcc + 3 < 16 ∧ 16 ≤ s.timer.timaAcc + 4
      ∧ (ram []).timer.tac.getLsbD 2 = false := by decide

/-- A transfer in progress with a connected peer. -/
def linked (inbound : Option Byte) (bits : Nat) : State :=
  { ram [] with
    serial := ⟨0x42#8, 0x81#8, 0, bits⟩
    host := { HostIn.quiet with serialPeer := ⟨.connected inbound 0x99#8, []⟩ } }

theorem witness_SerialExchange :
    (linked (some 0x55#8) 0).host.serialPeer.now = .connected (some 0x55#8) 0x99#8
      ∧ (linked none 0).host.serialPeer = ⟨.connected none 0x99#8, []⟩
      ∧ ((linked none 7).serial.sc.getLsbD 7 = true ∧ (linked none 7).serial.sc.getLsbD 0 = true)
      ∧ (linked none 7).serial.bitCount + 1 = 8 ∧ (linked none 6).serial.bitCount + 1 ≠ 8
      ∧ (ram []).host.serialPeer.now = .disconnected := by decide

theorem witness_RasterizedLine : State.reset.lcd.ly.toNat < 144 ∧ DisplayWf State.reset ∧ 159 < 160 :=
  ⟨by decide, witness_StepKeepsInv.1.display, by decide⟩

/-- An object at the left edge of the screen, its tile's first row set. -/
def oneObject : State :=
  { ram [] with
    mem := [(0x8000, 0xFF#8), (0xFE00, 16#8), (0xFE01, 8#8)]
    lcd := { (ram []).lcd with lcdc := 0x82#8, obp0 := 0xE4#8 } }

theorem witness_RasterizedLine_object :
    lineObjects oneObject.mem oneObject.lcd 0 = [0] ∧ objCode oneObject.mem oneObject.lcd 0 0 0 ≠ 0
      ∧ objCode oneObject.mem oneObject.lcd 0 8 0 = 0 := by decide

theorem witness_RasterizedLine_wins : wins oneObject.mem oneObject.lcd 0 0 0 := by
  refine ⟨by decide, by decide, ?_⟩
  rw [witness_RasterizedLine_object.1]
  intro j hj _ hne
  exact absurd (List.mem_singleton.mp hj) hne

theorem witness_DisplayTimingAndRequests :
    let s := { State.reset with lcd := { State.reset.lcd with lcdc := 0x80#8, ly := 143#8, lineCycles := 440 } }
    s.lcd.lcdc.getLsbD 7 = true ∧ DisplayWf s ∧ s.lcd.stat.extractLsb' 0 2 ≠ 1#2
      ∧ (displayStep 24 s).lcd.stat.extractLsb' 0 2 = 1#2 :=
  ⟨by decide, ⟨by decide, by decide, rfl, rfl, fun _ h => (List.eq_of_mem_replicate h) ▸ rfl⟩, by decide, by decide⟩

theorem witness_SoundMasterEnable :
    Sound.zero.master = false ∧ 0xFF10 ≤ (0xFF25#16).toNat ∧ (0xFF25#16).toNat ≤ 0xFF25 ∧ (0x7F#8).getLsbD 7 = false
      ∧ (0x80#8).getLsbD 7 = true ∧ handoverSound.master = true := by decide

theorem witness_SoundTrigger :
    handoverSound.master = true ∧ (0x80#8).getLsbD 7 = true ∧ handoverSound.ch1.nrx2.toNat ≥ 8
      ∧ handoverSound.ch2.nrx2.toNat < 8 ∧ handoverSound.ch3.nr30.getLsbD 7 = false ∧ handoverSound.ch4.nr42.toNat < 8 := by
  decide

theorem witness_SoundTrigger_others :
    let d := { handoverSound with
      ch2 := { Square.zero with nrx2 := 0x08#8 }
      ch3 := { handoverSound.ch3 with nr30 := 0x80#8 }
      ch4 := { handoverSound.ch4 with nr42 := 0xF0#8 } }
    d.ch2.nrx2.toNat ≥ 8 ∧ d.ch3.nr30.getLsbD 7 = true ∧ d.ch4.nr42.toNat ≥ 8 := by decide

/-- Channel 1 about to sweep, each channel at the start of a period. -/
def sweeping : Sound :=
  { handoverSound with
    sweep := ⟨0x11#8, 0x400, 1, true⟩
    ch1 := { handoverSound.ch1 with core := ⟨true, 1024, 10⟩ }
    ch3 := { handoverSound.ch3 with core := ⟨true, 4096, 0⟩ }
    ch4 := { handoverSound.ch4 with core := ⟨true, 8, 0⟩ } }

theorem witness_SoundClocks :
    sweeping.ch1.core.en = true ∧ sweeping.sweep.timer ≤ 1 ∧ sweeping.sweep.en = true
      ∧ (sweeping.sweep.nr10.toNat / 16) % 8 ≠ 0 ∧ sweeping.sweep.nr10.toNat % 8 ≠ 0
      ∧ 0x400 + 0x400 / 2 ^ (sweeping.sweep.nr10.toNat % 8) ≤ 2047 ∧ sweeping.ch1.nrx4.getLsbD 6 = false := by decide

theorem witness_SoundClocks_waits : 1 < ({ sweeping with sweep := ⟨0x11#8, 0x400, 2, true⟩ } : Sound).sweep.timer := by decide

theorem witness_SoundClocks_overflows :
    2047 < 0x700 + 0x700 / 2 ^ (({ sweeping with sweep := ⟨0x11#8, 0x700, 1, true⟩ } : Sound).sweep.nr10.toNat % 8) := by
  decide

theorem witness_SoundClocks_others :
    (let d : Sound := { sweeping with sweep := ⟨0x01#8, 0x400, 0, true⟩ };
      d.sweep.timer ≤ 1 ∧ d.sweep.en = true ∧ (d.sweep.nr10.toNat / 16) % 8 = 0)
    ∧ (let d : Sound := { sweeping with sweep := ⟨0x10#8, 0x300, 1, true⟩ };
      d.sweep.timer ≤ 1 ∧ (d.sweep.nr10.toNat / 16) % 8 ≠ 0 ∧ d.sweep.nr10.toNat % 8 = 0
        ∧ d.sweep.shadow + d.sweep.shadow / 2 ^ 0 ≤ 2047)
    ∧ Sound.zero.ch1.core.en = false := by decide

theorem witness_SoundClocks_periods :
    (sweeping.ch3.core.en = true ∧ sweeping.ch3.core.freqTimer = wavePeriod sweeping.ch3)
      ∧ (sweeping.ch4.core.en = true ∧ sweeping.ch4.core.freqTimer = noisePeriod sweeping.ch4) := by decide

theorem witness_SoundClocks_square :
    let q : Square := { sweeping.ch1 with core := ⟨true, (2048 - 0x7C1) * 4, 0⟩ }
    q.core.en = true ∧ q.core.freqTimer = squarePeriod q := by decide

theorem witness_SampleRateAndRange : SoundWf Sound.zero ∧ Sound.zero.master = false :=
  ⟨witness_StepKeepsInv.1.sound, rfl⟩

/-- An image with these header bytes 0x0147 to 0x0149 and its checksum. -/
def image (kind rom ramCode sum : Byte) : Image :=
  ⟨0x8000, [(0x147, kind), (0x148, rom), (0x149, ramCode), (0x14D, sum)].filter (fun c => c.2 ≠ 0#8)⟩

theorem witness_CartridgeChecks_short : (⟨0x14F, []⟩ : Image).len < 0x150 := by decide

theorem witness_CartridgeChecks_sum :
    headerChecksum (image 0x13#8 0x08#8 0x03#8 0xC9#8) = 0xC9#8 ∧ headerByte (image 0x13#8 0x08#8 0x03#8 0xC9#8) 0x14D = 0xC9#8
      ∧ 0x150 ≤ (image 0x13#8 0x08#8 0x03#8 0xC9#8).len := by decide

theorem witness_CartridgeChecks_accepts :
    ∃ c, loadCartridge (some (image 0x13#8 0x08#8 0x03#8 0xC9#8)) [] = .ok c := ⟨_, rfl⟩

theorem witness_CartridgeChecks_controller :
    loadCartridge (some (image 0x04#8 0x00#8 0x00#8 0xE3#8)) [] = .error (.unsupportedController 0x04#8) := rfl

theorem witness_CartridgeChecks_colour :
    loadCartridge (some ⟨0x8000, [(0x143, 0xC0#8), (0x14D, 0x27#8)]⟩) [] = .error .colorOnly := rfl

theorem witness_CartridgeChecks_ram :
    loadCartridge (some (image 0x01#8 0x00#8 0x04#8 0xE2#8)) [] = .error (.unsupportedRamSize 0x04#8) := rfl

theorem witness_CartridgeChecks_rom :
    loadCartridge (some (image 0x01#8 0x09#8 0x03#8 0xDA#8)) [] = .error (.unsupportedRomSize 0x09#8) := rfl

end Sys2Proof.Tests
end

section
/-! SUPPORT. What a step answers: the operations of R400 around `exec` answer a next state from every state, and only the
terminal state answers otherwise (R430). -/

namespace Sys2Proof.Machine

/-- The terminal state answers the fault outcome with its reason (R430). -/
theorem step_of_faulted {s : State} {r : FatalReason} (h : s.runState = .faulted r) : step s = .fault (.faulted r) := by
  simp only [step, h]

/-- Outside the terminal state a step is its CPU part and what follows it (R400). -/
theorem step_of_not_faulted {s : State} (h : isFaulted s = false) : step s = afterCpu (cpuStep (beginStep s)) := by
  cases hr : s.runState with
  | running | halted | stopped => simp only [step, hr]
  | faulted r => simp [isFaulted, hr] at h

@[simp] theorem isFaulted_beginStep (s : State) : isFaulted (beginStep s) = isFaulted s := by simp [isFaulted]

/-- What follows the CPU part keeps its outcome: a next state stays one (R430). -/
theorem afterCpu_next (s : State) : ∃ t, afterCpu (.next s) = .next t := by
  by_cases h : isFaulted s = true <;> simp [afterCpu, h]

/-- A step that fetches an instruction executes it, and `exec` answers a next state. -/
theorem runInstruction_next (s : State) : ∃ t, runInstruction s = .next t := exec_next _ _

/-- Whether an interrupt is taken or an instruction runs, the answer is a next state. -/
theorem runOrDispatch_next (s : State) : ∃ t, runOrDispatch s = .next t := by
  unfold runOrDispatch
  split
  · exact ⟨_, rfl⟩
  · exact runInstruction_next s

/-- Outside the terminal state the CPU part answers a next state: an idle step when it stays halted or stopped (R321, R323),
an instruction or a dispatch otherwise. -/
theorem cpuStep_next {s : State} (h : isFaulted s = false) : ∃ t, cpuStep s = .next t := by
  cases hr : s.runState with
  | running =>
    simp only [cpuStep, hr]
    exact runOrDispatch_next s
  | halted =>
    simp only [cpuStep, hr]
    split
    · exact ⟨_, rfl⟩
    · exact runOrDispatch_next _
  | stopped =>
    simp only [cpuStep, hr]
    split
    · exact runOrDispatch_next _
    · exact ⟨_, rfl⟩
  | faulted r => simp [isFaulted, hr] at h

/-- A step from any state but the terminal one answers a next state. -/
theorem step_next_of_not_faulted {s : State} (h : isFaulted s = false) : ∃ t, step s = .next t := by
  obtain ⟨u, hu⟩ := cpuStep_next (s := beginStep s) (by simpa using h)
  rw [step_of_not_faulted h, hu]
  exact afterCpu_next u

/-- Settles O31: the CPU part answers a next state because `exec` always does, and the end of a step keeps that. -/
theorem stepStopsOnlyWhenFaulted : Obligations.StepStopsOnlyWhenFaulted :=
  fun _ => ⟨fun _ h => step_of_faulted h, step_next_of_not_faulted⟩

end Sys2Proof.Machine
end

section
/-! SUPPORT. Power-on: the state of each boot mode (R600), the contents of the filled memory (R80), and the bus read of an
I/O register (R110). -/

namespace Sys2Proof

/-- An address with no entry reads as `unlistedByte`. -/
theorem Memory.read_of_unlisted {a : Nat} : {m : Memory} → (∀ c ∈ m, c.1 ≠ a) → Memory.read m a = unlistedByte
  | [], _ => rfl
  | (k, w) :: m, h => by
    rw [Memory.read, if_neg (h (k, w) List.mem_cons_self)]
    exact read_of_unlisted fun c hc => h c (List.mem_cons_of_mem _ hc)

namespace Machine

/-! ## The filled memory -/

/-- POWER_ON_FILL reaches VRAM, WRAM, OAM and HRAM only (R80). -/
theorem filledMem_filledAt (fill : Memory) : ∀ c ∈ filledMem fill, filledAt c.1 = true := by
  refine List.foldlRecOn (motive := fun m : Memory => ∀ c ∈ m, filledAt c.1 = true) _ _ (by simp) ?_
  intro m hm x hx c hc
  rcases Memory.mem_write hc with hc | rfl
  · exact hm c hc
  · exact (List.mem_filter.mp hx).2

/-- Wave RAM is not filled: it reads 0 at power-on (R80, log 10). -/
theorem filledMem_read_waveRam (fill : Memory) {n : Nat} (h1 : 0xFF30 ≤ n) (h2 : n ≤ 0xFF3F) :
    Memory.read (filledMem fill) n = 0#8 := by
  refine Memory.read_of_unlisted fun c hc hcn => ?_
  have hf := filledMem_filledAt fill c hc
  simp only [filledAt, Bool.or_eq_true, Bool.and_eq_true, decide_eq_true_eq] at hf
  omega

/-! ## The read of an I/O register -/

/-- The registers of R16 are at 0xFF00 to 0xFF7F. -/
theorem ioRegAt_range {n : Nat} {r : IoReg} (h : ioRegAt n = some r) : 0xFF00 ≤ n ∧ n ≤ 0xFF7F :=
  (by decide : ∀ p ∈ ioMap, 0xFF00 ≤ p.1 ∧ p.1 ≤ 0xFF7F) _ (ioRegAt_mem h)

/-- A bus read at the address of an I/O register is that register's read value (R110). -/
theorem memRead_ioReg (s : State) (a : Word) (r : IoReg) (h : ioRegAt a.toNat = some r) : memRead s a = regRead s r := by
  obtain ⟨hlo, hhi⟩ := ioRegAt_range h
  simp only [memRead, readAt]
  iterate 8 rw [if_neg (by omega)]
  rw [if_pos hhi, ioRead, h]

/-! ## The state after power-on -/

/-- The header checks keep the boot image they were given. -/
theorem checkHeader_bootImage {rom : Image} {boot : Memory} {c : Cart} (h : checkHeader rom boot = .ok c) :
    c.bootImage = boot := by
  unfold checkHeader at h
  repeat' split at h
  all_goals cases h
  rfl

/-- An accepted cartridge keeps the boot image it was given. -/
theorem loadCartridge_bootImage {rom : Option Image} {boot : Memory} {c : Cart} (h : loadCartridge rom boot = .ok c) :
    c.bootImage = boot := by
  cases rom with
  | none => cases h
  | some r =>
    simp only [loadCartridge] at h
    split at h
    · cases h
    · split at h
      · cases h
      · exact checkHeader_bootImage h

/-- An accepted power-on leaves the shared state, changed by `skipBoot` under SkipBoot (R600). -/
theorem powerOn_cases {p : Params} {h : HostIn} {s : State} (hs : powerOn p h = .ok s) :
    ∃ c, c.bootImage = bootImageOf p.bootMode ∧
      ((∃ image, p.bootMode = .bootRom image ∧ s = powerOnBase p h c)
        ∨ (p.bootMode = .skipBoot ∧ s = skipBoot (powerOnBase p h c))) := by
  unfold powerOn at hs
  split at hs
  · cases hs
  · rename_i c hc
    refine ⟨c, loadCartridge_bootImage hc, ?_⟩
    split at hs
    · exact .inl ⟨_, ‹_›, (Except.ok.inj hs).symm⟩
    · exact .inr ⟨‹_›, (Except.ok.inj hs).symm⟩

/-- What the shared state has and `skipBoot` keeps holds after every accepted power-on. -/
theorem powerOn_induct {p : Params} {h : HostIn} {s : State} {P : State → Prop} (hs : powerOn p h = .ok s)
    (base : ∀ c, P (powerOnBase p h c)) (skip : ∀ t, P t → P (skipBoot t)) : P s := by
  obtain ⟨c, -, ⟨-, -, rfl⟩ | ⟨-, rfl⟩⟩ := powerOn_cases hs
  · exact base c
  · exact skip _ (base c)

/-- Power-on under BootRom: the shared state, the cartridge holding the boot image (R10, R80). -/
theorem powerOn_bootRom {p : Params} {h : HostIn} {s : State} {image : Memory} (hs : powerOn p h = .ok s)
    (hb : p.bootMode = .bootRom image) : ∃ c, c.bootImage = image ∧ s = powerOnBase p h c := by
  obtain ⟨c, hc, ⟨-, -, rfl⟩ | ⟨hb', -⟩⟩ := powerOn_cases hs
  · exact ⟨c, by rw [hc, hb, bootImageOf], rfl⟩
  · cases hb.symm.trans hb'

/-- Power-on under SkipBoot: the shared state changed by `skipBoot` (R81). -/
theorem powerOn_skipBoot {p : Params} {h : HostIn} {s : State} (hs : powerOn p h = .ok s)
    (hb : p.bootMode = .skipBoot) : ∃ c, s = skipBoot (powerOnBase p h c) := by
  obtain ⟨c, -, ⟨_, hb', -⟩ | ⟨-, rfl⟩⟩ := powerOn_cases hs
  · cases hb.symm.trans hb'
  · exact ⟨c, rfl⟩

/-- Every accepted power-on leaves the memory filled (R80). -/
theorem powerOn_mem {p : Params} {h : HostIn} {s : State} (hs : powerOn p h = .ok s) : s.mem = filledMem p.fill.mem := by
  apply powerOn_induct hs
  exacts [fun _ => rfl, fun _ ht => ht]

/-- Every accepted power-on leaves the bank controller at its reset, the clock anchored at RTC_NOW (R602). -/
theorem powerOn_mbc {p : Params} {h : HostIn} {s : State} (hs : powerOn p h = .ok s) :
    s.mbc = Mbc.initial (initialClock p.saveClock) h.rtcNow.now := by
  apply powerOn_induct hs
  exacts [fun _ => rfl, fun _ ht => ht]

/-- A saved clock is taken within the register fields of R147 (R602, log 22). -/
theorem initialClock_some (c : SavedClock) : initialClock (some c)
    = ⟨c.regs.s &&& 0x3F#8, c.regs.m &&& 0x3F#8, c.regs.h &&& 0x1F#8, c.regs.dl, c.regs.dh &&& 0xC1#8⟩ := rfl

/-- Settles O60: the shared values hold of `powerOnBase` and `skipBoot` keeps them; the rest is one of these two states. -/
theorem powerOnState : Obligations.PowerOnState := by
  intro p h s hs
  refine ⟨?control, ?timer, ?serial, ?display, ?controller, ?waveRam, ?bootRom, ?skipBoot⟩
  case control =>
    apply powerOn_induct hs
    exacts [fun _ => ⟨rfl, rfl, rfl, rfl, rfl, rfl, rfl, rfl⟩, fun _ ht => ht]
  case timer =>
    apply powerOn_induct hs
    exacts [fun _ => ⟨rfl, rfl, rfl, rfl, rfl⟩, fun _ ht => ht]
  case serial =>
    apply powerOn_induct hs
    exacts [fun _ => rfl, fun _ ht => ht]
  case display =>
    apply powerOn_induct hs
    exacts [fun _ => ⟨rfl, rfl, rfl, rfl, rfl, rfl, rfl, rfl, rfl, rfl⟩, fun _ ht => ht]
  case controller =>
    rw [powerOn_mbc hs]
    exact ⟨rfl, rfl, rfl, rfl, rfl, rfl, rfl, fun hn => hn ▸ rfl, fun c hc => hc ▸ initialClock_some c, rfl, rfl⟩
  case waveRam =>
    rw [powerOn_mem hs]
    exact fun n => filledMem_read_waveRam _
  case bootRom =>
    intro image hb
    obtain ⟨c, hc, rfl⟩ := powerOn_bootRom hs hb
    refine ⟨rfl, rfl, hc, rfl, rfl, rfl, rfl, rfl, rfl, rfl, rfl, rfl, rfl, rfl, rfl, rfl, rfl, ?_, ?_, ?_⟩
    · exact (memRead_ioReg _ 0xFF0F#16 .iflag rfl).trans (show 7#3 ++ 0#5 = 0xE0#8 by decide)
    · exact (memRead_ioReg _ 0xFF41#16 .stat rfl).trans (show 0x80#8 ||| 0#8 = 0x80#8 by decide)
    · exact (memRead_ioReg _ 0xFF26#16 .nr52 rfl).trans (show readNr52 Sound.zero = 0x70#8 by decide)
  case skipBoot =>
    intro hb
    obtain ⟨c, rfl⟩ := powerOn_skipBoot hs hb
    refine ⟨rfl, rfl, rfl, rfl, rfl, rfl, rfl, rfl, rfl, rfl, rfl, ?_, ?_, ?_, ?_, ?_, ?_, ?_, rfl, rfl⟩
    · exact (memRead_ioReg _ 0xFF0F#16 .iflag rfl).trans (show 7#3 ++ 1#5 = 0xE1#8 by decide)
    · exact (memRead_ioReg _ 0xFF26#16 .nr52 rfl).trans (show readNr52 handoverSound = 0xF1#8 by decide)
    · exact (memRead_ioReg _ 0xFF11#16 .nr11 rfl).trans (show 0x3F#8 ||| 0x80#8 = 0xBF#8 by decide)
    · exact memRead_ioReg _ 0xFF12#16 .nr12 rfl
    · exact (memRead_ioReg _ 0xFF14#16 .nr14 rfl).trans (show 0xBF#8 ||| 0x07#8 = 0xBF#8 by decide)
    · exact memRead_ioReg _ 0xFF24#16 .nr50 rfl
    · exact memRead_ioReg _ 0xFF25#16 .nr51 rfl

end Machine
end Sys2Proof
end

section
/-! SUPPORT. The CPU part of a step as a path of three kinds of actions, none of which looks inside a device: registers
and the BUTTONS position change (`DataOnly`), control state changes (`ControlOnly`), a bus write is made. A predicate that
these actions keep holds at the end of the CPU part (`CpuKeeps`), so an invariant of a device is a fact about its registers'
writes and about its own advance. -/

namespace Sys2Proof.Machine

/-! ## Costs -/

theorem takenCost_le (op : Byte) : takenCost op ≤ 24 := by
  revert op; decide

theorem notTakenCost_le {op : Byte} {n : Nat} (h : notTakenCost op = some n) : n ≤ 12 := by
  unfold notTakenCost at h
  repeat' split at h
  all_goals cases h
  all_goals decide

/-- No instruction costs more than 24 cycles (R184). -/
theorem costOf_le (s : State) (i : Instr) : costOf s i ≤ 24 := by
  unfold costOf costOfBytes
  split
  · unfold extendedCost; repeat' split
    all_goals decide
  · split
    · split
      · exact takenCost_le _
      · exact (notTakenCost_le ‹_›).trans (by decide)
    · exact takenCost_le _

/-- What an operation costs is at most 24 cycles. -/
theorem Facts.cost_le {s : State} {i : Instr} {addrs : List Word} {n : Nat} (h : Facts s i addrs n) : n ≤ 24 :=
  h.costs ▸ costOf_le s i

/-! ## Registers and the reported cycles -/

/-- A packed F has its low nibble clear (R22). -/
theorem packF_low (z n h c : Bool) : packF z n h c &&& 0x0F#8 = 0#8 := by
  revert z n h c; decide

/-- Only the CPU registers, the reported cycles and the position of BUTTONS change; F's low bits stay 0 (R22) and the
reported cycles are the old ones or a cost of R184. -/
inductive DataOnly (s : State) : State → Prop where
  | mk (r : Regs) (n : Nat) (o : Oracle Buttons) (hf : FlagsWf s → r.f &&& 0x0F#8 = 0#8) (hn : n = s.cycles ∨ n ≤ 24) :
    DataOnly s { s with regs := r, cycles := n, host := { s.host with buttons := o } }

namespace DataOnly

theorem refl (s : State) : DataOnly s s := .mk s.regs s.cycles s.host.buttons id (.inl rfl)

theorem trans {s t u : State} (h : DataOnly s t) (h' : DataOnly t u) : DataOnly s u := by
  obtain ⟨r, n, o, hf, hn⟩ := h
  obtain ⟨r', n', o', hf', hn'⟩ := h'
  exact .mk r' n' o' (fun h => hf' (hf h)) (hn'.elim (fun e => e ▸ hn) .inr)

/-- A change of the registers that keeps F. -/
theorem ofRegs (s : State) (r : Regs) (h : r.f = s.regs.f) : DataOnly s { s with regs := r } :=
  .mk r s.cycles s.host.buttons (fun hf => h ▸ hf) (.inl rfl)

theorem setA (s : State) (v : Byte) : DataOnly s (setA s v) := ofRegs s _ rfl
theorem setSP (s : State) (w : Word) : DataOnly s (setSP s w) := ofRegs s _ rfl
theorem setPC (s : State) (w : Word) : DataOnly s (setPC s w) := ofRegs s _ rfl
theorem setHL (s : State) (w : Word) : DataOnly s (setHL s w) := ofRegs s _ rfl

theorem setReg8 (s : State) (v : Byte) (r : Reg8) : DataOnly s (setReg8 s v r) := by
  cases r <;> exact ofRegs s _ rfl

theorem setReg16 (s : State) (w : Word) (p : Reg16) : DataOnly s (setReg16 s w p) := by
  cases p <;> exact ofRegs s _ rfl

theorem setStackReg (s : State) (w : Word) (q : StackReg) : DataOnly s (setStackReg s w q) := by
  cases q with
  | AF =>
    have low : (loByte w &&& 0xF0#8) &&& 0x0F#8 = 0#8 := by rw [BitVec.and_assoc]; simp
    exact .mk _ s.cycles s.host.buttons (fun _ => low) (.inl rfl)
  | BC | DE | HL => exact ofRegs s _ rfl

theorem writeFlags (s : State) (w : FlagWrite) : DataOnly s (writeFlags s w) :=
  .mk _ s.cycles s.host.buttons (fun _ => packF_low ..) (.inl rfl)

theorem cost (s : State) {n : Nat} (h : n ≤ 24) : DataOnly s { s with cycles := n } :=
  .mk s.regs n s.host.buttons id (.inr h)

theorem afterRead (s : State) (a : Word) : DataOnly s (afterRead s a) := by
  unfold Machine.afterRead
  split
  · exact .mk s.regs s.cycles _ id (.inl rfl)
  · exact refl s

theorem readOpnd8 (s : State) (o : Opnd8) : DataOnly s (readOpnd8 s o).2 := by
  cases o with
  | reg r => exact refl s
  | mHL => exact afterRead s _

theorem pop16 (s : State) : DataOnly s (pop16 s).2 := by
  rw [pop16_eq]
  exact ((afterRead s _).trans (afterRead _ _)).trans (setSP _ _)

end DataOnly

/-! ## Control state -/

/-- Only IME, the scheduled enable, the run state and the pending HALT bug change, the divider at most restarts (R323), and
a scheduled enable still means that IME is off (R27). -/
inductive ControlOnly (s : State) : State → Prop where
  | mk (ime : Bool) (ei : Nat) (rs : RunState) (hb : Bool) (tm : Timer)
    (he : EnableWf s → ei ≤ 2 ∧ (ei > 0 → ime = false))
    (ht : tm = s.timer ∨ tm = { s.timer with div := 0#8, divAcc := 0 }) :
    ControlOnly s { s with ime := ime, eiDelay := ei, runState := rs, haltBugPending := hb, timer := tm }

namespace ControlOnly

theorem runState (s : State) (rs : RunState) : ControlOnly s { s with runState := rs } :=
  .mk s.ime s.eiDelay rs s.haltBugPending s.timer (fun h => ⟨h.bound, h.exclusive⟩) (.inl rfl)

theorem haltBugPending (s : State) (hb : Bool) : ControlOnly s { s with haltBugPending := hb } :=
  .mk s.ime s.eiDelay s.runState hb s.timer (fun h => ⟨h.bound, h.exclusive⟩) (.inl rfl)

theorem imeOff (s : State) : ControlOnly s { s with ime := false } :=
  .mk false s.eiDelay s.runState s.haltBugPending s.timer (fun h => ⟨h.bound, fun _ => rfl⟩) (.inl rfl)

theorem refl (s : State) : ControlOnly s s := runState s s.runState

theorem halt (s : State) : ControlOnly s (halt s) := by
  unfold Machine.halt
  split
  · exact runState s _
  · split
    · exact haltBugPending s _
    · exact refl s

theorem stop (s : State) : ControlOnly s (stop s) :=
  .mk s.ime s.eiDelay .stopped s.haltBugPending _ (fun h => ⟨h.bound, h.exclusive⟩) (.inr rfl)

theorem disableInterrupts (s : State) : ControlOnly s (disableInterrupts s) :=
  .mk false 0 s.runState s.haltBugPending s.timer (fun _ => ⟨by decide, fun _ => rfl⟩) (.inl rfl)

theorem enableInterrupts (s : State) : ControlOnly s (enableInterrupts s) := by
  unfold Machine.enableInterrupts
  split
  · rename_i h
    exact .mk s.ime 2 s.runState s.haltBugPending s.timer (fun _ => ⟨by decide, fun _ => h.1⟩) (.inl rfl)
  · exact refl s

/-- RETI's own part: IME set at once, nothing left scheduled (R310). -/
theorem imeOn (s : State) : ControlOnly s { s with ime := true, eiDelay := 0 } :=
  .mk true 0 s.runState s.haltBugPending s.timer (fun _ => ⟨by decide, fun h => absurd h (by decide)⟩) (.inl rfl)

end ControlOnly

/-! ## Paths -/

/-- The actions of one instruction, in order: data changes, bus writes where `stores` allows them, control changes where
`controls` allows them. -/
inductive ExecPath (stores controls : Prop) (s : State) : State → Prop where
  | refl : ExecPath stores controls s s
  | data {t u : State} : ExecPath stores controls s t → DataOnly t u → ExecPath stores controls s u
  | write {t : State} (hs : stores) (a : Word) (v : Byte) :
    ExecPath stores controls s t → ExecPath stores controls s (memWrite t a v)
  | control {t u : State} (hc : controls) : ExecPath stores controls s t → ControlOnly t u → ExecPath stores controls s u

/-- A path leads to the next state that a meaning answers. -/
def PathTo (stores controls : Prop) (s : State) : Result → Prop
  | .next t => ExecPath stores controls s t
  | .fault _ => False
  | .refused _ => False

namespace ExecPath

variable {stores controls : Prop} {s t : State}

theorem writeOpnd8 (h : ExecPath stores controls s t) (v : Byte) (o : Opnd8) (hs : o = .mHL → stores) :
    ExecPath stores controls s (writeOpnd8 t v o) := by
  cases o with
  | reg r => exact h.data (.setReg8 t v r)
  | mHL => exact .write (hs rfl) _ v h

theorem push16 (h : ExecPath stores controls s t) (hs : stores) (w : Word) :
    ExecPath stores controls s (push16 t w) := by
  rw [push16_eq]
  exact .write hs _ _ (.data (.write hs _ _ (h.data (.setSP t _))) (.setSP _ _))

/-- The instruction done: its cost is the last thing written. -/
theorem done (h : ExecPath stores controls s t) {n : Nat} (hn : n ≤ 24) :
    PathTo stores controls s (done n t) :=
  h.data (.cost t hn)

theorem accumulate (h : ExecPath stores controls s t) (op : AluOp) (b : Byte) {n : Nat} (hn : n ≤ 24) :
    PathTo stores controls s (accumulate op b n t) := by
  refine ((h.data (u := if op = .cp then t else setA t _) ?_).data (.writeFlags _ _)).done hn
  split
  · exact .refl t
  · exact .setA t _

theorem jump (h : ExecPath stores controls s t) (a : Word) {n : Nat} (hn : n ≤ 24) :
    PathTo stores controls s (jump a n t) := (h.data (.setPC t a)).done hn

theorem call (h : ExecPath stores controls s t) (a : Word) (hs : stores) {n : Nat} (hn : n ≤ 24) :
    PathTo stores controls s (call a n t) := ((h.push16 hs _).data (.setPC _ a)).done hn

theorem ret (h : ExecPath stores controls s t) {n : Nat} (hn : n ≤ 24) : PathTo stores controls s (ret n t) :=
  ((h.data (.pop16 t)).data (.setPC _ _)).done hn

end ExecPath

/-- An instruction the spec does not define is a control instruction (R181, R327). -/
theorem wellFormed_or_controlInstr (i : Instr) : (controlInstr i || i.wellFormed) = true := by
  cases i <;> rfl

theorem ControlFacts.control_of_illegal {s : State} {i : Instr} {n : Nat} (h : ControlFacts s i n false) :
    controlInstr i = true := by
  simpa [h.legal] using wellFormed_or_controlInstr i

/-- An operand form stores where it has an address. -/
theorem Facts.stores_of_mHL {s : State} {i : Instr} {o : Opnd8} {n : Nat} (h : Facts s i (opndAddrs s o) n) (ho : o = .mHL) :
    storeAddrs s i ≠ [] := by
  rw [h.stores, ho]; simp [opndAddrs]

theorem Facts.stores_of_ne_nil {s : State} {i : Instr} {addrs : List Word} {n : Nat} (h : Facts s i addrs n)
    (ha : addrs ≠ []) : storeAddrs s i ≠ [] := h.stores ▸ ha

/-- Every instruction is a path of data changes, of bus writes if it has addresses to store to, and of control changes if it
is a control instruction. -/
theorem exec_path (s : State) (i : Instr) :
    PathTo (storeAddrs s i ≠ []) (controlInstr i = true) s (exec i s) := by
  have hshape := exec_shape s i
  generalize exec i s = r at hshape
  have start : ExecPath (storeAddrs s i ≠ []) (controlInstr i = true) s s := .refl
  have read := fun (o : Opnd8) => start.data (.readOpnd8 s o)
  cases hshape with
  | loadReg d o h => exact ((read o).data (.setReg8 _ _ d)).done h.cost_le
  | loadImm o v h => exact (start.writeOpnd8 v o h.stores_of_mHL).done h.cost_le
  | storeReg r h => exact (ExecPath.write (h.stores_of_ne_nil (by simp)) _ _ start).done h.cost_le
  | loadA a n h => exact ((start.data (.afterRead s a)).data (.setA _ _)).done h.cost_le
  | storeA a n h => exact (ExecPath.write (h.stores_of_ne_nil (by simp)) _ _ start).done h.cost_le
  | loadAStep d h => exact (((start.data (.afterRead s _)).data (.setA _ _)).data (.setHL _ _)).done h.cost_le
  | storeAStep d h =>
    exact ((ExecPath.write (h.stores_of_ne_nil (by simp)) _ _ start).data (.setHL _ _)).done h.cost_le
  | loadPair p w h => exact (start.data (.setReg16 s w p)).done h.cost_le
  | storeSP a h =>
    have hs := h.stores_of_ne_nil (by simp)
    exact (ExecPath.write hs _ _ (.write hs _ _ start)).done h.cost_le
  | loadSPFromHL h => exact (start.data (.setSP s _)).done h.cost_le
  | loadHLFromSP e h => exact ((start.data (.setHL s _)).data (.writeFlags _ _)).done h.cost_le
  | pushPair q h => exact (start.push16 (h.stores_of_ne_nil (by simp [pushAddrs])) _).done h.cost_le
  | popPair q h => exact ((start.data (.pop16 s)).data (.setStackReg _ _ q)).done h.cost_le
  | accumulate op b h => exact start.accumulate op b h.cost_le
  | accumulateOpnd op o h => exact (read o).accumulate op _ h.cost_le
  | incOpnd o h => exact (((read o).writeOpnd8 _ o h.stores_of_mHL).data (.writeFlags _ _)).done h.cost_le
  | decOpnd o h => exact (((read o).writeOpnd8 _ o h.stores_of_mHL).data (.writeFlags _ _)).done h.cost_le
  | decimalAdjust h => exact ((start.data (.setA s _)).data (.writeFlags _ _)).done h.cost_le
  | complementA h => exact ((start.data (.setA s _)).data (.writeFlags _ _)).done h.cost_le
  | setCarry h => exact (start.data (.writeFlags _ _)).done h.cost_le
  | complementCarry h => exact (start.data (.writeFlags _ _)).done h.cost_le
  | addHL p h => exact ((start.data (.setHL s _)).data (.writeFlags _ _)).done h.cost_le
  | incPair p h => exact (start.data (.setReg16 s _ p)).done h.cost_le
  | decPair p h => exact (start.data (.setReg16 s _ p)).done h.cost_le
  | addSP e h => exact ((start.data (.setSP s _)).data (.writeFlags _ _)).done h.cost_le
  | rotateA op h => exact ((start.data (.setA s _)).data (.writeFlags _ _)).done h.cost_le
  | shiftOpnd op o h => exact (((read o).writeOpnd8 _ o h.stores_of_mHL).data (.writeFlags _ _)).done h.cost_le
  | bitOpnd b o h => exact ((read o).data (.writeFlags _ _)).done h.cost_le
  | resOpnd b o h => exact ((read o).writeOpnd8 _ o h.stores_of_mHL).done h.cost_le
  | setOpnd b o h => exact ((read o).writeOpnd8 _ o h.stores_of_mHL).done h.cost_le
  | jump a n h => exact start.jump a h.cost_le
  | jumpIf c a h =>
    exact iteInduction (motive := PathTo _ _ s) (fun _ => start.jump a (by decide)) (fun _ => start.done (by decide))
  | jumpRelativeIf c e h =>
    exact iteInduction (motive := PathTo _ _ s) (fun _ => start.jump _ (by decide)) (fun _ => start.done (by decide))
  | call a n h => exact start.call a (h.stores_of_ne_nil (by simp [pushAddrs])) h.cost_le
  | callIf c a h =>
    refine iteInduction (motive := PathTo _ _ s) (fun hc => start.call a ?_ (by decide)) (fun _ => start.done (by decide))
    exact h.stores_of_ne_nil (by simp [hc, pushAddrs])
  | ret n h => exact start.ret h.cost_le
  | retIf c h =>
    exact iteInduction (motive := PathTo _ _ s) (fun _ => start.ret (by decide)) (fun _ => start.done (by decide))
  | nop h => exact start.done h.cost_le
  | reti hi h =>
    exact (ExecPath.control (hi ▸ rfl) ((start.data (.pop16 s)).data (.setPC _ _)) (.imeOn _)).done (by decide)
  | halt hi h => exact (ExecPath.control (hi ▸ rfl) start (.halt s)).done (by decide)
  | stop n hi h => exact (ExecPath.control (hi ▸ rfl) start (.stop s)).done (by decide)
  | di hi h => exact (ExecPath.control (hi ▸ rfl) start (.disableInterrupts s)).done (by decide)
  | ei hi h => exact (ExecPath.control (hi ▸ rfl) start (.enableInterrupts s)).done (by decide)
  | illegal op hi hm h => exact .control h.control_of_illegal start (.runState s _)

end Sys2Proof.Machine
end

section
/-! SUPPORT. The frames of `exec` (O24, O25), read off its path. -/

namespace Sys2Proof.Machine

theorem DataOnly.frame {s t : State} (h : DataOnly s t) :
    t = { s with regs := t.regs, cycles := t.cycles, host := { s.host with buttons := t.host.buttons } } := by
  cases h; rfl

/-- What `exec` answers lies at the end of its path. -/
theorem exec_path_of_next {s t : State} {i : Instr} (h : exec i s = .next t) :
    ExecPath (storeAddrs s i ≠ []) (controlInstr i = true) s t := by
  have hp := exec_path s i
  rwa [h] at hp

/-- A path without bus writes and control changes changes data only. -/
theorem ExecPath.dataOnly {stores controls : Prop} {s t : State} (h : ExecPath stores controls s t) (hs : ¬stores)
    (hc : ¬controls) : DataOnly s t := by
  induction h with
  | refl => exact .refl s
  | data _ hd ih => exact ih.trans hd
  | write hs' => exact absurd hs' hs
  | control hc' => exact absurd hc' hc

/-- Settles O24: with nothing to store and no control change, the path changes data only. -/
theorem nonStoringFrame : Obligations.NonStoringFrame := by
  intro i s t ht hs hc
  exact ((exec_path_of_next ht).dataOnly (not_not.mpr hs) (by simp [hc])).frame

/-- The control state as `exec` sees it: IME, the scheduled enable, the run state, the pending HALT bug. -/
def controlState (s : State) : Bool × Nat × RunState × Bool := (s.ime, s.eiDelay, s.runState, s.haltBugPending)

/-- A path without control changes keeps the control state. -/
theorem ExecPath.controlState_eq {stores controls : Prop} {s t : State} (h : ExecPath stores controls s t)
    (hc : ¬controls) : controlState t = controlState s := by
  induction h with
  | refl => rfl
  | data _ hd ih => cases hd; exact ih
  | write _ a v _ ih => simpa [controlState] using ih
  | control hc' => exact absurd hc' hc

/-- What no action of an instruction changes: HALT_BUG, the cartridge, the outputs, the fetch address, the sampled lines. -/
def fixedState (s : State) : Bool × Cart × StepOut × Word × BitVec 4 :=
  (s.haltBug, s.cart, s.out, s.instrAddr, s.joyPrev)

theorem ExecPath.fixedState_eq {stores controls : Prop} {s t : State} (h : ExecPath stores controls s t) :
    fixedState t = fixedState s := by
  induction h with
  | refl => rfl
  | data _ hd ih => cases hd; exact ih
  | write _ a v _ ih => simpa [fixedState] using ih
  | control _ _ hk ih => cases hk; exact ih

/-- The control state after an instruction that is no control instruction. -/
theorem exec_controlState {s t : State} {i : Instr} (h : exec i s = .next t) (hc : controlInstr i = false) :
    controlState t = controlState s :=
  (exec_path_of_next h).controlState_eq (by simp [hc])

/-- Settles O25: only the control part of a path changes the control state, and nothing in it the fixed state. -/
theorem controlStateFrame : Obligations.ControlStateFrame := by
  intro i s t ht
  have hf := (exec_path_of_next ht).fixedState_eq
  refine ⟨fun hc => ?_, by simpa only [fixedState, Prod.mk.injEq] using hf⟩
  simpa only [controlState, Prod.mk.injEq] using exec_controlState ht hc

end Sys2Proof.Machine
end

section
/-! SUPPORT. What every action of the CPU part keeps holds at its end (`CpuKeeps.cpuStep`), and what the end of the step
keeps too holds after the step (`step_cases`). -/

namespace Sys2Proof.Machine

/-- The predicate is kept by every action of the CPU part: data and control changes, bus writes, the fetch address noted,
an interrupt line cleared. -/
structure CpuKeeps (P : State → Prop) : Prop where
  data : ∀ {s t}, DataOnly s t → P s → P t
  control : ∀ {s t}, ControlOnly s t → P s → P t
  write : ∀ {s} a v, P s → P (memWrite s a v)
  lines : ∀ {s} f, P s → P { s with iflag := f }
  fetchAddr : ∀ {s} w, P s → P { s with instrAddr := w }

namespace CpuKeeps

variable {P : State → Prop} {s t : State}

theorem path (k : CpuKeeps P) {stores controls : Prop} (h : ExecPath stores controls s t) (hs : P s) : P t := by
  induction h with
  | refl => exact hs
  | data _ hd ih => exact k.data hd ih
  | write _ a v _ ih => exact k.write a v ih
  | control _ _ hc ih => exact k.control hc ih

theorem exec (k : CpuKeeps P) {i : Instr} (h : exec i s = .next t) (hs : P s) : P t := k.path (exec_path_of_next h) hs

theorem push16 (k : CpuKeeps P) (w : Word) (hs : P s) : P (push16 s w) := by
  rw [push16_eq]
  exact k.write _ _ (k.data (.setSP _ _) (k.write _ _ (k.data (.setSP _ _) hs)))

theorem fetchByte (k : CpuKeeps P) (hs : P s) : P (fetchByte s).2 := by
  by_cases hb : s.haltBugPending = true
  · rw [fetchByte_haltBug hb]
    exact k.control (.haltBugPending _ _) (k.data (.afterRead s _) hs)
  · rw [fetchByte_eq (Bool.eq_false_iff.mpr hb)]
    exact k.data (.setPC _ _) (k.data (.afterRead s _) hs)

theorem fetchBytes (k : CpuKeeps P) (n : Nat) (hs : P s) : P (fetchBytes n s).2 := by
  induction n generalizing s with
  | zero => exact hs
  | succ n ih => exact ih (k.fetchByte hs)

theorem fetchInstr (k : CpuKeeps P) (hs : P s) : P (fetchInstr s).2 := k.fetchBytes _ (k.fetchByte hs)

theorem runInstruction (k : CpuKeeps P) (h : runInstruction s = .next t) (hs : P s) : P t :=
  k.exec h (k.fetchInstr (k.fetchAddr _ hs))

/-- Taking an interrupt: the push, then IME, the line and PC (R420). -/
theorem dispatch (k : CpuKeeps P) (hs : P s) : P (dispatch s) := by
  have pushed := k.push16 (if s.haltBugPending = true then s.regs.pc - 1#16 else s.regs.pc)
    (k.control (.haltBugPending s false) hs)
  exact k.data (.cost _ (n := 20) (by decide)) (k.data (.setPC _ _) (k.lines _ (k.control (.imeOff _) pushed)))

theorem runOrDispatch (k : CpuKeeps P) (h : runOrDispatch s = .next t) (hs : P s) : P t := by
  unfold Machine.runOrDispatch at h
  split at h
  · cases h; exact k.dispatch hs
  · exact k.runInstruction h hs

theorem idleStep (k : CpuKeeps P) (h : idleStep s = .next t) (hs : P s) : P t := by
  cases h; exact k.data (.cost s (by decide)) hs

/-- The CPU part of a step keeps the predicate. -/
theorem cpuStep (k : CpuKeeps P) (h : cpuStep s = .next t) (hs : P s) : P t := by
  have woken : ∀ u, P u → P { u with runState := .running } := fun u hu => k.control (.runState u _) hu
  have asked : P (drawButtons s) := k.data (.mk s.regs s.cycles _ id (.inl rfl)) hs
  unfold Machine.cpuStep at h
  split at h
  · exact k.runOrDispatch h hs
  · split at h
    · exact k.idleStep h hs
    · exact k.runOrDispatch h (woken s hs)
  · split at h
    · exact k.runOrDispatch h (woken _ asked)
    · exact k.idleStep h asked
  · cases h

end CpuKeeps

/-- A step that answers a next state: the CPU part answered one; it ended the step if it raised the fatal state, and the end
of the step followed if not (R400, R430). -/
theorem step_cases {s t : State} (h : step s = .next t) :
    ∃ u, isFaulted s = false ∧ cpuStep (beginStep s) = .next u
      ∧ ((isFaulted u = true ∧ t = u) ∨ (isFaulted u = false ∧ t = finishStep u)) := by
  have hs : isFaulted s = false := by
    cases hr : s.runState with
    | faulted r => rw [step_of_faulted hr] at h; cases h
    | running | halted | stopped => simp [isFaulted, hr]
  obtain ⟨u, hu⟩ := cpuStep_next (s := beginStep s) (by simpa using hs)
  rw [step_of_not_faulted hs, hu] at h
  refine ⟨u, hs, hu, ?_⟩
  cases hf : isFaulted u <;> simp only [afterCpu, hf] at h <;> cases h <;> simp

/-- A predicate that the start of a step, the CPU part's actions and the end of a step keep is kept by the step. -/
theorem step_keeps {P : State → Prop} (k : CpuKeeps P) (starts : ∀ {s}, P s → P (beginStep s))
    (ends : ∀ {s}, P s → P (finishStep s)) {s t : State} (h : step s = .next t) (hs : P s) : P t := by
  obtain ⟨u, -, hu, ⟨-, rfl⟩ | ⟨-, rfl⟩⟩ := step_cases h
  · exact k.cpuStep hu (starts hs)
  · exact ends (k.cpuStep hu (starts hs))

end Sys2Proof.Machine
end

section
/-! SUPPORT. What the end of a step changes (R402, R404, R480): each device advances its own state and requests interrupt
lines; the CPU registers, the memories, the bank controller, the cartridge and the overlay stay. -/

namespace Sys2Proof.Machine

/-! ## The timer -/

/-- TIMA counting changes TIMA and the interrupt lines only (R451). -/
theorem timaTicks_frame (k : Nat) (s : State) :
    ∃ x f, timaTicks k s = { s with timer := { s.timer with tima := x }, iflag := f } := by
  induction k generalizing s with
  | zero => exact ⟨s.timer.tima, s.iflag, rfl⟩
  | succ k ih =>
    obtain ⟨x, f, h⟩ := ih (timaTick s)
    refine ⟨x, f, ?_⟩
    rw [timaTicks, h]
    unfold timaTick
    split <;> rfl

/-- `TimerStep(n)` changes the timer and the interrupt lines only: the divider part, TIMA, and TIMA's accumulator, which is
left below the threshold while TAC[2] is 1 (R450, R451). -/
theorem timerStep_frame (n : Nat) (s : State) :
    ∃ x f, timerStep n s = { s with
      timer := { dividerStep n s.timer with
        tima := x
        timaAcc := if s.timer.tac.getLsbD 2 = true then (s.timer.timaAcc + n) % timerThreshold s.timer.tac
          else s.timer.timaAcc }
      iflag := f } := by
  unfold timerStep counterStep
  by_cases hon : s.timer.tac.getLsbD 2 = true
  · obtain ⟨x, f, h⟩ := timaTicks_frame ((s.timer.timaAcc + n) / timerThreshold s.timer.tac)
      { s with timer := { dividerStep n s.timer with timaAcc := (s.timer.timaAcc + n) % timerThreshold s.timer.tac } }
    refine ⟨x, f, ?_⟩
    simp only [dividerStep, hon, if_true] at h ⊢
    exact h
  · refine ⟨s.timer.tima, s.iflag, ?_⟩
    simp only [dividerStep, hon]
    rfl

/-! ## The display -/

/-- Only the display and the interrupt lines change. -/
inductive LcdOnly (s : State) : State → Prop where
  | mk (d : Lcd) (f : BitVec 5) : LcdOnly s { s with lcd := d, iflag := f }

theorem LcdOnly.refl (s : State) : LcdOnly s s := .mk s.lcd s.iflag

theorem LcdOnly.trans {s t u : State} (h : LcdOnly s t) (h' : LcdOnly t u) : LcdOnly s u := by
  cases h; cases h'; exact .mk _ _

theorem requestStat_lcdOnly (b : Nat) (s : State) : LcdOnly s (requestStat b s) := by
  unfold requestStat
  split
  · exact .mk s.lcd _
  · exact .refl s

theorem enterMode_lcdOnly (m : BitVec 2) (s : State) : LcdOnly s (enterMode m s) := by
  unfold enterMode
  split
  · exact .trans (.mk _ s.iflag) (requestStat_lcdOnly 3 _)
  · exact .trans (.mk _ _) (requestStat_lcdOnly 4 _)
  · exact requestStat_lcdOnly 5 s
  · exact .refl s

theorem evaluateMode_lcdOnly (s : State) : LcdOnly s (evaluateMode s) := by
  unfold evaluateMode
  dsimp only
  split
  · exact .refl s
  · exact .trans (.mk _ s.iflag) (enterMode_lcdOnly _ _)

theorem coincidence_lcdOnly (s : State) : LcdOnly s (coincidence s) :=
  iteInduction (motive := LcdOnly s) (fun _ => .mk _ _) (fun _ => .mk _ s.iflag)

/-- `DisplayStep(n)` changes the display and the interrupt lines only (R520 to R526). -/
theorem displayStep_lcdOnly (n : Nat) (s : State) : LcdOnly s (displayStep n s) := by
  unfold displayStep
  split
  · exact .trans (.trans (.mk _ s.iflag) (evaluateMode_lcdOnly _)) (coincidence_lcdOnly _)
  · exact .mk _ s.iflag

theorem displayStep_frame (n : Nat) (s : State) : ∃ d f, displayStep n s = { s with lcd := d, iflag := f } := by
  have h := displayStep_lcdOnly n s
  generalize displayStep n s = t at h
  cases h; exact ⟨_, _, rfl⟩

/-! ## The serial link -/

/-- Only the serial link, the interrupt lines, the peer's answers and the sent bytes change; the accumulator stays and the
bit count stays below 8 (R71, R470). -/
inductive SerialOnly (s : State) : State → Prop where
  | mk (d : Serial) (f : BitVec 5) (p : Oracle PeerAnswer) (o : List Byte) (ha : d.acc = s.serial.acc)
    (hb : s.serial.bitCount < 8 → d.bitCount < 8) :
    SerialOnly s { s with serial := d, iflag := f, host := { s.host with serialPeer := p },
                          out := { s.out with serialSent := o } }

theorem SerialOnly.refl (s : State) : SerialOnly s s :=
  .mk s.serial s.iflag s.host.serialPeer s.out.serialSent rfl id

theorem SerialOnly.trans {s t u : State} (h : SerialOnly s t) (h' : SerialOnly t u) : SerialOnly s u := by
  obtain ⟨d, f, p, o, ha, hb⟩ := h
  obtain ⟨d', f', p', o', ha', hb'⟩ := h'
  exact .mk d' f' p' o' (ha'.trans ha) (fun h => hb' (hb h))

theorem passiveExchange_serialOnly (a : PeerAnswer) (s : State) : SerialOnly s (passiveExchange a s) := by
  unfold passiveExchange
  split
  · exact .mk _ _ s.host.serialPeer _ rfl id
  · exact .refl s
  · exact .refl s

theorem activeExchange_serialOnly (a : PeerAnswer) (s : State) : SerialOnly s (activeExchange a s) := by
  unfold activeExchange
  split
  · exact .mk _ _ s.host.serialPeer _ rfl id
  · exact .mk _ _ s.host.serialPeer s.out.serialSent rfl id

theorem localTransfer_serialOnly (a : PeerAnswer) (s : State) : SerialOnly s (localTransfer a s) := by
  unfold localTransfer
  split
  · split
    · refine .trans (.mk { s.serial with bitCount := 0 } s.iflag s.host.serialPeer s.out.serialSent rfl ?_)
        (activeExchange_serialOnly a _)
      exact fun _ => Nat.zero_lt_succ 7
    · exact .mk _ s.iflag s.host.serialPeer s.out.serialSent rfl fun h => by change s.serial.bitCount + 1 < 8; omega
  · exact .refl s

theorem serialTick_serialOnly (s : State) : SerialOnly s (serialTick s) :=
  .trans (.trans (.mk s.serial s.iflag _ s.out.serialSent rfl id) (passiveExchange_serialOnly _ _))
    (localTransfer_serialOnly _ _)

theorem serialTicks_serialOnly (k : Nat) (s : State) : SerialOnly s (serialTicks k s) := by
  induction k generalizing s with
  | zero => exact .refl s
  | succ k ih => exact (serialTick_serialOnly s).trans (ih _)

/-- `SerialStep(n)` changes the serial link, the interrupt lines, the peer's answers and the sent bytes only, and leaves its
counters in their ranges (R71, R470). -/
theorem serialStep_frame (n : Nat) (s : State) :
    ∃ d f p o, serialStep n s = { s with
        serial := d, iflag := f, host := { s.host with serialPeer := p }, out := { s.out with serialSent := o } }
      ∧ d.acc < 512 ∧ (s.serial.bitCount < 8 → d.bitCount < 8) := by
  have h := serialTicks_serialOnly ((s.serial.acc + n) / 512)
    { s with serial := { s.serial with acc := (s.serial.acc + n) % 512 } }
  unfold serialStep
  dsimp only
  revert h
  generalize serialTicks _ _ = t
  rintro ⟨d, f, p, o, ha, hb⟩
  exact ⟨d, f, p, o, rfl, ha ▸ Nat.mod_lt _ (by decide), hb⟩

/-! ## The end of a step -/

/-- The scheduled enable counts down and sets IME (R404). -/
theorem endOfStep_frame (s : State) : ∃ ei im, endOfStep s = { s with eiDelay := ei, ime := im } := by
  unfold endOfStep
  repeat' split
  exacts [⟨_, _, rfl⟩, ⟨_, s.ime, rfl⟩, ⟨s.eiDelay, s.ime, rfl⟩]

/-- `SampleInput()` changes the sampled lines, the interrupt lines and the position of BUTTONS only (R480). -/
theorem sampleInput_frame (s : State) :
    ∃ j f b, sampleInput s = { s with joyPrev := j, iflag := f, host := { s.host with buttons := b } } := by
  unfold sampleInput
  dsimp only
  split
  exacts [⟨_, _, _, rfl⟩, ⟨_, s.iflag, _, rfl⟩]

/-! ## Fields the devices leave alone -/

section
variable (n : Nat) (s : State)

@[simp] theorem timerStep_ime : (timerStep n s).ime = s.ime := by obtain ⟨_, _, h⟩ := timerStep_frame n s; rw [h]
@[simp] theorem timerStep_eiDelay : (timerStep n s).eiDelay = s.eiDelay := by
  obtain ⟨_, _, h⟩ := timerStep_frame n s; rw [h]
@[simp] theorem timerStep_serial : (timerStep n s).serial = s.serial := by
  obtain ⟨_, _, h⟩ := timerStep_frame n s; rw [h]
@[simp] theorem timerStep_lcd : (timerStep n s).lcd = s.lcd := by obtain ⟨_, _, h⟩ := timerStep_frame n s; rw [h]
@[simp] theorem timerStep_sound : (timerStep n s).sound = s.sound := by obtain ⟨_, _, h⟩ := timerStep_frame n s; rw [h]
@[simp] theorem timerStep_mem : (timerStep n s).mem = s.mem := by obtain ⟨_, _, h⟩ := timerStep_frame n s; rw [h]

@[simp] theorem displayStep_ime : (displayStep n s).ime = s.ime := by
  obtain ⟨_, _, h⟩ := displayStep_frame n s; rw [h]
@[simp] theorem displayStep_eiDelay : (displayStep n s).eiDelay = s.eiDelay := by
  obtain ⟨_, _, h⟩ := displayStep_frame n s; rw [h]
@[simp] theorem displayStep_timer : (displayStep n s).timer = s.timer := by
  obtain ⟨_, _, h⟩ := displayStep_frame n s; rw [h]
@[simp] theorem displayStep_serial : (displayStep n s).serial = s.serial := by
  obtain ⟨_, _, h⟩ := displayStep_frame n s; rw [h]
@[simp] theorem displayStep_sound : (displayStep n s).sound = s.sound := by
  obtain ⟨_, _, h⟩ := displayStep_frame n s; rw [h]
@[simp] theorem displayStep_mem : (displayStep n s).mem = s.mem := by
  obtain ⟨_, _, h⟩ := displayStep_frame n s; rw [h]

@[simp] theorem soundStep_ime : (soundStep n s).ime = s.ime := rfl
@[simp] theorem soundStep_eiDelay : (soundStep n s).eiDelay = s.eiDelay := rfl
@[simp] theorem soundStep_timer : (soundStep n s).timer = s.timer := rfl
@[simp] theorem soundStep_serial : (soundStep n s).serial = s.serial := rfl
@[simp] theorem soundStep_lcd : (soundStep n s).lcd = s.lcd := rfl
@[simp] theorem soundStep_sound : (soundStep n s).sound = (soundTicks s.mem n s.sound).1 := rfl

@[simp] theorem serialStep_ime : (serialStep n s).ime = s.ime := by
  obtain ⟨_, _, _, _, h, -⟩ := serialStep_frame n s; rw [h]
@[simp] theorem serialStep_eiDelay : (serialStep n s).eiDelay = s.eiDelay := by
  obtain ⟨_, _, _, _, h, -⟩ := serialStep_frame n s; rw [h]
@[simp] theorem serialStep_timer : (serialStep n s).timer = s.timer := by
  obtain ⟨_, _, _, _, h, -⟩ := serialStep_frame n s; rw [h]
@[simp] theorem serialStep_lcd : (serialStep n s).lcd = s.lcd := by
  obtain ⟨_, _, _, _, h, -⟩ := serialStep_frame n s; rw [h]
@[simp] theorem serialStep_sound : (serialStep n s).sound = s.sound := by
  obtain ⟨_, _, _, _, h, -⟩ := serialStep_frame n s; rw [h]

@[simp] theorem sampleInput_ime : (sampleInput s).ime = s.ime := by obtain ⟨_, _, _, h⟩ := sampleInput_frame s; rw [h]
@[simp] theorem sampleInput_eiDelay : (sampleInput s).eiDelay = s.eiDelay := by
  obtain ⟨_, _, _, h⟩ := sampleInput_frame s; rw [h]
@[simp] theorem sampleInput_timer : (sampleInput s).timer = s.timer := by
  obtain ⟨_, _, _, h⟩ := sampleInput_frame s; rw [h]
@[simp] theorem sampleInput_serial : (sampleInput s).serial = s.serial := by
  obtain ⟨_, _, _, h⟩ := sampleInput_frame s; rw [h]
@[simp] theorem sampleInput_lcd : (sampleInput s).lcd = s.lcd := by obtain ⟨_, _, _, h⟩ := sampleInput_frame s; rw [h]
@[simp] theorem sampleInput_sound : (sampleInput s).sound = s.sound := by
  obtain ⟨_, _, _, h⟩ := sampleInput_frame s; rw [h]

@[simp] theorem endOfStep_serial : (endOfStep s).serial = s.serial := by obtain ⟨_, _, h⟩ := endOfStep_frame s; rw [h]
@[simp] theorem endOfStep_timer : (endOfStep s).timer = s.timer := by obtain ⟨_, _, h⟩ := endOfStep_frame s; rw [h]
@[simp] theorem endOfStep_lcd : (endOfStep s).lcd = s.lcd := by obtain ⟨_, _, h⟩ := endOfStep_frame s; rw [h]
@[simp] theorem endOfStep_sound : (endOfStep s).sound = s.sound := by obtain ⟨_, _, h⟩ := endOfStep_frame s; rw [h]
@[simp] theorem endOfStep_mem : (endOfStep s).mem = s.mem := by obtain ⟨_, _, h⟩ := endOfStep_frame s; rw [h]

end

/-! ## The end of a step, field by field -/

section
variable (s : State)

@[simp] theorem finishStep_ime : (finishStep s).ime = (endOfStep s).ime := by simp [finishStep, advanceDevices]
@[simp] theorem finishStep_eiDelay : (finishStep s).eiDelay = (endOfStep s).eiDelay := by
  simp [finishStep, advanceDevices]
@[simp] theorem finishStep_timer : (finishStep s).timer = (timerStep s.cycles (endOfStep s)).timer := by
  simp [finishStep, advanceDevices]
@[simp] theorem finishStep_lcd :
    (finishStep s).lcd = (displayStep s.cycles (timerStep s.cycles (endOfStep s))).lcd := by
  simp [finishStep, advanceDevices]
@[simp] theorem finishStep_sound : (finishStep s).sound = (soundTicks s.mem s.cycles s.sound).1 := by
  simp [finishStep, advanceDevices]
@[simp] theorem finishStep_serial : (finishStep s).serial = (serialStep s.cycles
    (soundStep s.cycles (displayStep s.cycles (timerStep s.cycles (endOfStep s))))).serial := by
  simp [finishStep, advanceDevices]

end

/-- What a step's end may change: the delayed enable, the interrupt lines, the sampled lines, the four devices, the host's
answers and the outputs. -/
inductive DevicesOnly (s : State) : State → Prop where
  | mk (ei : Nat) (im : Bool) (f : BitVec 5) (j : BitVec 4) (tm : Timer) (sr : Serial) (d : Lcd) (so : Sound) (h : HostIn)
    (o : StepOut) : DevicesOnly s { s with
      eiDelay := ei, ime := im, iflag := f, joyPrev := j, timer := tm, serial := sr, lcd := d, sound := so, host := h, out := o }

theorem DevicesOnly.trans {s t u : State} (h : DevicesOnly s t) (h' : DevicesOnly t u) : DevicesOnly s u := by
  cases h; cases h'; exact .mk ..

/-- `AdvanceDevices(n)` changes the four devices and what they report (R402). -/
theorem advanceDevices_devicesOnly (n : Nat) (s : State) : DevicesOnly s (advanceDevices n s) := by
  have timer : DevicesOnly s (timerStep n s) := by
    obtain ⟨x, f, h⟩ := timerStep_frame n s
    rw [h]; exact .mk s.eiDelay s.ime f s.joyPrev _ s.serial s.lcd s.sound s.host s.out
  have display : ∀ t, DevicesOnly t (displayStep n t) := fun t => by
    obtain ⟨d, f, h⟩ := displayStep_frame n t
    rw [h]; exact .mk t.eiDelay t.ime f t.joyPrev t.timer t.serial d t.sound t.host t.out
  have sound : ∀ t, DevicesOnly t (soundStep n t) := fun t =>
    .mk t.eiDelay t.ime t.iflag t.joyPrev t.timer t.serial t.lcd _ t.host _
  have serial : ∀ t, DevicesOnly t (serialStep n t) := fun t => by
    obtain ⟨d, f, p, o, h, -⟩ := serialStep_frame n t
    rw [h]; exact .mk t.eiDelay t.ime f t.joyPrev t.timer d t.lcd t.sound _ _
  exact ((timer.trans (display _)).trans (sound _)).trans (serial _)

/-- The end of a step (R402, R404, R480) leaves the CPU registers, the run state, P1's selection, IE, the memories, the
cartridge, the bank controller, the overlay and the reported cycles alone. -/
theorem finishStep_devicesOnly (s : State) : DevicesOnly s (finishStep s) := by
  have enable : DevicesOnly s (endOfStep s) := by
    obtain ⟨ei, im, h⟩ := endOfStep_frame s
    rw [h]; exact .mk ei im s.iflag s.joyPrev s.timer s.serial s.lcd s.sound s.host s.out
  have sample : ∀ t, DevicesOnly t (sampleInput t) := fun t => by
    obtain ⟨j, f, b, h⟩ := sampleInput_frame t
    rw [h]; exact .mk t.eiDelay t.ime f j t.timer t.serial t.lcd t.sound _ t.out
  exact (enable.trans (advanceDevices_devicesOnly _ _)).trans (sample _)

end Sys2Proof.Machine
end

section
/-! SUPPORT. A bus write by its destination (`memWrite_induct`), and the invariants of the storage, the load-time state, the
bank controller, the counters and the display through bus writes. -/

namespace Sys2Proof.Machine

/-- A bus write is a control write, a write of `mem`, one through the external RAM window, a register write, a write of IE,
or nothing (R111). What holds in each case holds of it. -/
theorem memWrite_induct {P : State → Prop} (s : State) (v : Byte) (none : P s)
    (control : ∀ n, P (cartControlWrite s n v)) (ram : ∀ m, P { s with mem := m }) (window : ∀ n, P (cartRamWrite s n v))
    (register : ∀ r, P (regWrite s v r)) (enable : P { s with ie := v }) (a : Word) : P (memWrite s a v) := by
  have io : ∀ n, P (ioWrite s n v) := fun n => by
    unfold ioWrite
    repeat' split
    exacts [none, register _, ram _, none]
  unfold memWrite
  dsimp only
  repeat' split
  exacts [control _, none, ram _, window _, ram _, ram _, none, ram _, none, io _, ram _, enable]

/-! ## What the cartridge's writes change -/

/-- A write through the external RAM window changes external RAM, the live clock with its anchor and RTC_NOW's position only
(R131, R146). -/
theorem cartRamWrite_frame (s : State) (n : Nat) (v : Byte) :
    ∃ e l a o, cartRamWrite s n v = { s with
      eram := e, mbc := { s.mbc with rtcLive := l, rtcAnchor := a }, host := { s.host with rtcNow := o } } := by
  unfold cartRamWrite
  split
  · exact ⟨_, s.mbc.rtcLive, s.mbc.rtcAnchor, s.host.rtcNow, rfl⟩
  · split
    · exact ⟨s.eram, _, _, _, rfl⟩
    · exact ⟨s.eram, s.mbc.rtcLive, s.mbc.rtcAnchor, s.host.rtcNow, rfl⟩

/-- A control write changes the bank controller and RTC_NOW's position only (R130). -/
theorem cartControlWrite_frame (s : State) (n : Nat) (v : Byte) :
    ∃ m o, cartControlWrite s n v = { s with mbc := m, host := { s.host with rtcNow := o } } := by
  have same : ∀ m, ∃ m' o, ({ s with mbc := m } : State) = { s with mbc := m', host := { s.host with rtcNow := o } } :=
    fun m => ⟨m, s.host.rtcNow, rfl⟩
  unfold cartControlWrite
  split
  · exact same s.mbc
  · exact same _
  · exact same _
  · unfold mbc3Control
    split
    · exact same _
    · split
      · exact same _
      · split
        · exact same _
        · split
          · exact ⟨_, _, rfl⟩
          · exact same _

/-- A write to DMA stores the page and copies (R63, R125). -/
theorem regWrite_dma (s : State) (v : Byte) :
    regWrite s v .dma = dmaCopy (withLcd s { s.lcd with dma := v }) v := rfl

/-- A write of exactly 1 to 0xFF50 removes the overlay (R123). -/
theorem regWrite_boot (s : State) (v : Byte) :
    regWrite s v .boot = if v = 0x01#8 then { s with bootOverlay := false } else s := rfl

/-- A register write leaves the bank controller alone. -/
@[simp] theorem regWrite_mbc (s : State) (v : Byte) (r : IoReg) : (regWrite s v r).mbc = s.mbc := by
  cases r
  case dma => exact dmaCopy_mbc ..
  case boot => rw [regWrite_boot]; split <;> rfl
  all_goals rfl

/-! ## The overlay -/

/-- A bus write does not bring the boot overlay back (R123). -/
theorem memWrite_overlay_gone {s : State} (h : s.bootOverlay = false) (a : Word) (v : Byte) :
    (memWrite s a v).bootOverlay = false := by
  refine memWrite_induct (P := fun t => t.bootOverlay = false) s v h ?control (fun _ => h) ?window ?register h a
  case control =>
    intro n
    obtain ⟨_, _, hf⟩ := cartControlWrite_frame s n v
    rw [hf]; exact h
  case window =>
    intro n
    obtain ⟨_, _, _, _, hf⟩ := cartRamWrite_frame s n v
    rw [hf]; exact h
  case register =>
    intro r
    cases r
    case dma => exact (dmaCopy_bootOverlay ..).trans h
    case boot => rw [regWrite_boot]; split; exacts [rfl, h]
    all_goals exact h

/-! ## The bank registers -/

theorem BanksWf.congr {s t : State} (h : BanksWf s) (h1 : t.mbc.bank1 = s.mbc.bank1) (h2 : t.mbc.romBank = s.mbc.romBank)
    (hc : t.cart = s.cart) : BanksWf t :=
  ⟨h1 ▸ h.bank1, h2 ▸ h.romBank, fun ht => h2 ▸ h.mbc2 (hc ▸ ht)⟩

/-- A control write stores no bank 0, and MBC2 keeps its four bits (R132, R140, R145). -/
theorem BanksWf.cartControlWrite {s : State} (h : BanksWf s) (n : Nat) (v : Byte) : BanksWf (cartControlWrite s n v) := by
  have nonzero : ∀ {w : Nat} {x y : BitVec w}, x ≠ 0#w → (if y = 0#w then x else y) ≠ 0#w := fun hx => by
    split
    exacts [hx, ‹_›]
  unfold Machine.cartControlWrite
  split
  · exact h
  · unfold mbc1Control
    split
    · exact h.congr rfl rfl rfl
    · split
      · exact ⟨nonzero (by decide), h.romBank, h.mbc2⟩
      · split <;> exact h.congr rfl rfl rfl
  · unfold mbc2Control
    have bank : ∀ x : BitVec 4, (if x = 0#4 then 1#7 else x.zeroExtend 7) ≠ 0#7
        ∧ (if x = 0#4 then 1#7 else x.zeroExtend 7).toNat < 16 := by decide
    split
    · split
      · exact ⟨h.bank1, (bank _).1, fun _ => (bank _).2⟩
      · exact h.congr rfl rfl rfl
    · exact h
  · rename_i hm
    unfold mbc3Control
    split
    · exact h.congr rfl rfl rfl
    · split
      · exact ⟨h.bank1, nonzero (by decide), fun ht => absurd (hm.symm.trans ht) (by decide)⟩
      · split
        · exact h.congr rfl rfl rfl
        · split <;> exact h.congr rfl rfl rfl

theorem BanksWf.memWrite {s : State} (h : BanksWf s) (a : Word) (v : Byte) : BanksWf (memWrite s a v) := by
  refine memWrite_induct s v h (h.cartControlWrite · v) (fun _ => h.congr rfl rfl rfl) ?window ?register
    (h.congr rfl rfl rfl) a
  case window =>
    intro n
    obtain ⟨_, _, _, _, hf⟩ := cartRamWrite_frame s n v
    rw [hf]; exact h.congr rfl rfl rfl
  case register =>
    intro r
    have hm := regWrite_mbc s v r
    exact h.congr (congrArg _ hm) (congrArg _ hm) (regWrite_cart s v r)

/-! ## The clock -/

/-- A bus write keeps the clock's fields (R146, R147). -/
theorem ClockWf.memWrite {s : State} (h : ClockWf s) (a : Word) (v : Byte) : ClockWf (memWrite s a v) :=
  memWrite_induct s v h (h.cartControlWrite · v) (fun _ => h.congr rfl) (h.cartRamWrite · v)
    (fun r => h.congr (regWrite_mbc s v r)) (h.congr rfl) a

/-! ## The accumulators -/

/-- The ranges of the timer and serial counters at any point of a step: TAC may have changed since the timer last counted, so
only the largest threshold bounds TIMA's accumulator (R70, R71). -/
structure AccumulatorsWf (s : State) : Prop where
  divAcc : s.timer.divAcc < 256
  timaAcc : s.timer.timaAcc < 1024
  serialAcc : s.serial.acc < 512
  bitCount : s.serial.bitCount < 8

theorem AccumulatorsWf.congr {s t : State} (h : AccumulatorsWf s) (ht : t.timer = s.timer) (hs : t.serial = s.serial) :
    AccumulatorsWf t :=
  ⟨ht ▸ h.divAcc, ht ▸ h.timaAcc, hs ▸ h.serialAcc, hs ▸ h.bitCount⟩

theorem AccumulatorsWf.regWrite {s : State} (h : AccumulatorsWf s) (v : Byte) (r : IoReg) :
    AccumulatorsWf (regWrite s v r) := by
  cases r
  case sc =>
    refine ⟨h.divAcc, h.timaAcc, h.serialAcc, ?_⟩
    change (if v.getLsbD 7 = true then 0 else s.serial.bitCount) < 8
    split
    exacts [by decide, h.bitCount]
  case div => exact ⟨by change 0 < 256; decide, h.timaAcc, h.serialAcc, h.bitCount⟩
  case dma => exact h.congr (dmaCopy_timer ..) (dmaCopy_serial ..)
  case boot => rw [regWrite_boot]; split; exacts [h.congr rfl rfl, h]
  all_goals exact ⟨h.divAcc, h.timaAcc, h.serialAcc, h.bitCount⟩

theorem AccumulatorsWf.memWrite {s : State} (h : AccumulatorsWf s) (a : Word) (v : Byte) :
    AccumulatorsWf (memWrite s a v) := by
  refine memWrite_induct s v h ?control (fun _ => h.congr rfl rfl) ?window (h.regWrite v) (h.congr rfl rfl) a
  case control =>
    intro n
    obtain ⟨_, _, hf⟩ := cartControlWrite_frame s n v
    rw [hf]; exact h.congr rfl rfl
  case window =>
    intro n
    obtain ⟨_, _, _, _, hf⟩ := cartRamWrite_frame s n v
    rw [hf]; exact h.congr rfl rfl

/-! ## The display's counters and buffers -/

theorem DisplayWf.congr {s t : State} (h : DisplayWf s) (hl : t.lcd.ly = s.lcd.ly)
    (hc : t.lcd.lineCycles = s.lcd.lineCycles) (hb : t.lcd.bgCode = s.lcd.bgCode)
    (hf : t.lcd.frameBuffer = s.lcd.frameBuffer) : DisplayWf t :=
  ⟨hl ▸ h.ly, hc ▸ h.lineCycles, hb ▸ h.bgCode, hf ▸ h.rows, hf ▸ h.columns⟩

theorem DisplayWf.congr_lcd {s t : State} (h : DisplayWf s) (hl : t.lcd = s.lcd) : DisplayWf t :=
  h.congr (congrArg _ hl) (congrArg _ hl) (congrArg _ hl) (congrArg _ hl)

/-- No register write reaches LY, the cycle in the line or a buffer (R61, R72). -/
theorem DisplayWf.regWrite {s : State} (h : DisplayWf s) (v : Byte) (r : IoReg) : DisplayWf (regWrite s v r) := by
  cases r
  case dma =>
    rw [regWrite_dma]
    exact (h.congr (t := withLcd s { s.lcd with dma := v }) rfl rfl rfl rfl).congr_lcd (dmaCopy_lcd ..)
  case boot => rw [regWrite_boot]; split; exacts [h.congr_lcd rfl, h]
  all_goals exact h.congr rfl rfl rfl rfl

theorem DisplayWf.memWrite {s : State} (h : DisplayWf s) (a : Word) (v : Byte) : DisplayWf (memWrite s a v) := by
  refine memWrite_induct s v h ?control (fun _ => h.congr_lcd rfl) ?window (h.regWrite v) (h.congr_lcd rfl) a
  case control =>
    intro n
    obtain ⟨_, _, hf⟩ := cartControlWrite_frame s n v
    rw [hf]; exact h.congr_lcd rfl
  case window =>
    intro n
    obtain ⟨_, _, _, _, hf⟩ := cartRamWrite_frame s n v
    rw [hf]; exact h.congr_lcd rfl

end Sys2Proof.Machine
end

section
/-! SUPPORT. The storage (O36) and the load-time state (O38) through a whole step. -/

namespace Sys2Proof.Machine

/-- The state that the CPU's registers and control state are no part of: serial link, display, sound, memories, cartridge,
bank controller, overlay and HALT_BUG are the same. -/
structure SameUnits (s t : State) : Prop where
  serial : t.serial = s.serial
  lcd : t.lcd = s.lcd
  sound : t.sound = s.sound
  mem : t.mem = s.mem
  eram : t.eram = s.eram
  cart : t.cart = s.cart
  mbc : t.mbc = s.mbc
  overlay : t.bootOverlay = s.bootOverlay
  haltBug : t.haltBug = s.haltBug

/-- A predicate of those units is kept by the CPU part once bus writes keep it. -/
theorem CpuKeeps.of_sameUnits {P : State → Prop} (congr : ∀ {s t}, P s → SameUnits s t → P t)
    (write : ∀ {s} a v, P s → P (memWrite s a v)) : CpuKeeps P where
  data h hs := congr hs (by cases h; constructor <;> rfl)
  control h hs := congr hs (by cases h; constructor <;> rfl)
  write := write
  lines f hs := congr hs (by constructor <;> rfl)
  fetchAddr w hs := congr hs (by constructor <;> rfl)

theorem storageWf_cpuKeeps : CpuKeeps StorageWf :=
  .of_sameUnits (fun h u => h.congr u.mem u.eram u.cart) (fun a v h => h.memWrite a v)

/-- Settles O36: the actions of the CPU part keep the storage, and neither end of a step touches the memories. -/
theorem stepKeepsTheStorage : Obligations.StepKeepsTheStorage := fun s _ hs h =>
  step_keeps storageWf_cpuKeeps (fun h => h.congr (beginStep_mem _) (beginStep_eram _) (beginStep_cart _))
    (fun {u} h => by
      have hd := finishStep_devicesOnly u
      generalize finishStep u = t at hd
      cases hd; exact h.congr rfl rfl rfl) h hs

/-- The load-time state of `s` is that of `t`, and the overlay, gone in `s`, is gone in `t` (R82, R123). -/
structure LoadTimeKept (s t : State) : Prop where
  cart : t.cart = s.cart
  haltBug : t.haltBug = s.haltBug
  overlay : s.bootOverlay = false → t.bootOverlay = false

theorem LoadTimeKept.congr {s t u : State} (h : LoadTimeKept s t) (hc : u.cart = t.cart) (hh : u.haltBug = t.haltBug)
    (ho : u.bootOverlay = t.bootOverlay) : LoadTimeKept s u :=
  ⟨hc.trans h.cart, hh.trans h.haltBug, fun hs => ho.trans (h.overlay hs)⟩

theorem loadTimeKept_cpuKeeps (s : State) : CpuKeeps (LoadTimeKept s) :=
  .of_sameUnits (fun h u => h.congr u.cart u.haltBug u.overlay) fun a v h =>
    ⟨(memWrite_cart ..).trans h.cart, (memWrite_haltBug ..).trans h.haltBug,
      fun hs => memWrite_overlay_gone (h.overlay hs) a v⟩

/-- Settles O38: no action of a step changes the load-time state, and a bus write can only remove the overlay. -/
theorem loadTimeStateKept : Obligations.LoadTimeStateKept := by
  intro s t h
  have kept : LoadTimeKept s t := step_keeps (loadTimeKept_cpuKeeps s)
    (fun h => h.congr (beginStep_cart _) (beginStep_haltBug _) (beginStep_bootOverlay _))
    (fun {u} h => by
      have hd := finishStep_devicesOnly u
      generalize finishStep u = t at hd
      cases hd; exact h.congr rfl rfl rfl) h ⟨rfl, rfl, id⟩
  simp only [kept.cart, kept.haltBug, true_and]
  exact kept.overlay

end Sys2Proof.Machine
end

section
/-! SUPPORT. The sound controller's counters (`SoundWf`) through register writes, frame sequencer and ticks. -/

namespace Sys2Proof.Machine

/-! ## Bounds of the values the controller computes -/

theorem and_toNat_le (v : Byte) (k : Nat) (hk : k < 256) : (v &&& BitVec.ofNat 8 k).toNat ≤ k := by
  rw [BitVec.toNat_and, BitVec.toNat_ofNat, Nat.mod_eq_of_lt hk]
  exact Nat.and_le_right

theorem freqValue_le (nrx4 nrx3 : Byte) : freqValue nrx4 nrx3 ≤ 2047 := by
  have h1 := and_toNat_le nrx4 7 (by decide)
  have h2 := nrx3.isLt
  unfold freqValue
  omega

theorem sweepReload_le (w : Sweep) : sweepReload w ≤ 8 := by
  have h : sweepPeriod w ≤ 7 := and_toNat_le _ 7 (by decide)
  unfold sweepReload
  split <;> omega

/-- A triggered envelope: a volume of four bits and a timer of three (R565). -/
theorem triggerEnv_le (nrx2 : Byte) : (triggerEnv nrx2).volume ≤ 15 ∧ (triggerEnv nrx2).timer ≤ 7 := by
  refine ⟨?_, and_toNat_le _ 7 (by decide)⟩
  have := nrx2.isLt
  simp only [triggerEnv, BitVec.toNat_ushiftRight, Nat.shiftRight_eq_div_pow]
  omega

theorem triggerCore_length_le {c : ChannelCore} {full : Nat} (h : c.length ≤ full) (period : Int) :
    (triggerCore c full period).length ≤ full := by
  unfold triggerCore
  dsimp only
  split
  exacts [Nat.le_refl _, h]

theorem lengthClock_le {c : ChannelCore} {b : Nat} (h : c.length ≤ b) (nrx4 : Byte) :
    (lengthClock c nrx4).length ≤ b := by
  unfold lengthClock
  split
  · exact (Nat.sub_le ..).trans h
  · exact h

theorem stepVolume_le {vol : Nat} (h : vol ≤ 15) (nrx2 : Byte) : stepVolume vol nrx2 ≤ 15 := by
  unfold stepVolume
  repeat' split
  all_goals omega

/-- The envelope clock keeps volume and timer in their ranges (R568). -/
theorem envelopeClock_le {e : Envelope} (h : e.volume ≤ 15 ∧ e.timer ≤ 7) (en : Bool) (nrx2 : Byte) :
    (envelopeClock e en nrx2).volume ≤ 15 ∧ (envelopeClock e en nrx2).timer ≤ 7 := by
  have ht : (if e.timer > 0 then e.timer - 1 else e.timer) ≤ 7 := by split <;> omega
  unfold envelopeClock
  dsimp only
  generalize (if e.timer > 0 then e.timer - 1 else e.timer) = t at ht
  split
  · split
    exacts [⟨stepVolume_le h.1 nrx2, and_toNat_le _ 7 (by decide)⟩, ⟨h.1, ht⟩]
  · exact h

/-! ## One channel -/

/-- The counters of a square channel in their ranges (R73). -/
structure SquareWf (q : Square) : Prop where
  length : q.core.length ≤ 64
  env : q.env.volume ≤ 15 ∧ q.env.timer ≤ 7
  dutyPos : q.dutyPos < 8

/-- The counters of the wave channel in their ranges (R73). -/
structure WaveWf (w : Wave) : Prop where
  length : w.core.length ≤ 256
  wavePos : w.wavePos < 32

/-- The counters of the noise channel in their ranges (R73). -/
structure NoiseWf (n : Noise) : Prop where
  length : n.core.length ≤ 64
  env : n.env.volume ≤ 15 ∧ n.env.timer ≤ 7

theorem SquareWf.write4 {q : Square} (h : SquareWf q) (v : Byte) : SquareWf (writeSquare4 q v) := by
  unfold writeSquare4
  dsimp only
  split
  exacts [⟨triggerCore_length_le h.length _, triggerEnv_le _, h.dutyPos⟩, ⟨h.length, h.env, h.dutyPos⟩]

theorem SquareWf.tick {q : Square} (h : SquareWf q) : SquareWf (tickSquare q) := by
  unfold tickSquare
  repeat' split
  exacts [⟨h.length, h.env, Nat.mod_lt _ (by decide)⟩, ⟨h.length, h.env, h.dutyPos⟩, h]

theorem WaveWf.write34 {w : Wave} (h : WaveWf w) (v : Byte) : WaveWf (writeNr34 w v) := by
  unfold writeNr34
  dsimp only
  split
  exacts [⟨triggerCore_length_le h.length _, by change 0 < 32; decide⟩, ⟨h.length, h.wavePos⟩]

theorem WaveWf.tick {w : Wave} (h : WaveWf w) : WaveWf (tickWave w) := by
  unfold tickWave
  repeat' split
  exacts [⟨h.length, Nat.mod_lt _ (by decide)⟩, ⟨h.length, h.wavePos⟩, h]

theorem NoiseWf.write44 {n : Noise} (h : NoiseWf n) (v : Byte) : NoiseWf (writeNr44 n v) := by
  unfold writeNr44
  dsimp only
  split
  exacts [⟨triggerCore_length_le h.length _, triggerEnv_le _⟩, ⟨h.length, h.env⟩]

theorem NoiseWf.tick {n : Noise} (h : NoiseWf n) : NoiseWf (tickNoise n) := by
  unfold tickNoise
  repeat' split
  exacts [⟨h.length, h.env⟩, ⟨h.length, h.env⟩, h]

/-! ## The controller -/

/-- The sound part of a register write (R40 to R56); the other registers leave the controller alone. -/
theorem regWrite_sound (s : State) (v : Byte) (r : IoReg) : (regWrite s v r).sound = soundRegWrite s.sound v r := by
  cases r
  case dma => exact dmaCopy_sound ..
  case boot => rw [regWrite_boot]; split <;> rfl
  all_goals rfl

namespace SoundWf

variable {d : Sound}

theorem ch1 (h : SoundWf d) : SquareWf d.ch1 := by
  obtain ⟨hl, -⟩ := h.lengths
  obtain ⟨hv, -⟩ := h.volumes
  obtain ⟨ht, -⟩ := h.envTimers
  obtain ⟨hp, -⟩ := h.positions
  exact ⟨hl, ⟨hv, ht⟩, hp⟩

theorem ch2 (h : SoundWf d) : SquareWf d.ch2 := by
  obtain ⟨-, hl, -⟩ := h.lengths
  obtain ⟨-, hv, -⟩ := h.volumes
  obtain ⟨-, ht, -⟩ := h.envTimers
  obtain ⟨-, hp, -⟩ := h.positions
  exact ⟨hl, ⟨hv, ht⟩, hp⟩

theorem ch3 (h : SoundWf d) : WaveWf d.ch3 := by
  obtain ⟨-, -, hl, -⟩ := h.lengths
  obtain ⟨-, -, hp⟩ := h.positions
  exact ⟨hl, hp⟩

theorem ch4 (h : SoundWf d) : NoiseWf d.ch4 := by
  obtain ⟨-, -, -, hl⟩ := h.lengths
  obtain ⟨-, -, hv⟩ := h.volumes
  obtain ⟨-, -, ht⟩ := h.envTimers
  exact ⟨hl, ⟨hv, ht⟩⟩

/-- The channels replaced by others in their ranges. -/
theorem withChannels (h : SoundWf d) {q1 q2 : Square} {w : Wave} {n : Noise} (h1 : SquareWf q1) (h2 : SquareWf q2)
    (h3 : WaveWf w) (h4 : NoiseWf n) : SoundWf { d with ch1 := q1, ch2 := q2, ch3 := w, ch4 := n } :=
  { h with
    lengths := ⟨h1.length, h2.length, h3.length, h4.length⟩
    volumes := ⟨h1.env.1, h2.env.1, h4.env.1⟩
    envTimers := ⟨h1.env.2, h2.env.2, h4.env.2⟩
    positions := ⟨h1.dutyPos, h2.dutyPos, h3.wavePos⟩ }

/-- The sweep replaced by another in its ranges. -/
theorem withSweep (h : SoundWf d) {w : Sweep} (ht : w.timer ≤ 8) (hs : w.shadow ≤ 2047) :
    SoundWf { d with sweep := w } := { h with sweepTimer := ht, sweepShadow := hs }

/-- The sweep calculation only disables channel 1 (R569). -/
theorem sweepCheck (h : SoundWf d) : SoundWf (sweepCheck d) := by
  unfold Machine.sweepCheck
  split
  exacts [{ h with }, h]

/-! ### Register writes -/

/-- A trigger of channel 1 keeps the counters in their ranges (R565, R569). -/
theorem triggerCh1 (h : SoundWf d) : SoundWf (triggerCh1 d) := by
  have channel : SquareWf (triggerSquare d.ch1) :=
    ⟨triggerCore_length_le h.ch1.length _, triggerEnv_le _, h.ch1.dutyPos⟩
  have triggered := (h.withChannels channel h.ch2 h.ch3 h.ch4).withSweep (w := { d.sweep with
    shadow := freqValue d.ch1.nrx4 d.ch1.nrx3, timer := sweepReload d.sweep
    en := sweepPeriod d.sweep ≠ 0 ∨ sweepShift d.sweep ≠ 0 }) (sweepReload_le _) (freqValue_le ..)
  unfold Machine.triggerCh1
  dsimp only
  split
  exacts [triggered.sweepCheck, triggered]

theorem writeNr14 (h : SoundWf d) (v : Byte) : SoundWf (writeNr14 d v) := by
  have stored : SoundWf { d with ch1 := { d.ch1 with nrx4 := storedNrx4 v } } := { h with }
  unfold Machine.writeNr14
  dsimp only
  split
  exacts [stored.triggerCh1, stored]

/-- The master enable written: the counters stay, or the frame sequencer restarts (R563). -/
theorem writeNr52 (h : SoundWf d) (v : Byte) : SoundWf (writeNr52 d v) := by
  unfold Machine.writeNr52
  repeat' split
  exacts [h, { h with fsAcc := by change 0 < 8192; decide, fsPhase := by change 0 < 8; decide }, { h with }, h]

/-- A write to a sound register keeps the counters in their ranges (R40 to R56, R562 to R565). -/
theorem soundRegWrite (h : SoundWf d) (v : Byte) (r : IoReg) : SoundWf (soundRegWrite d v r) := by
  obtain ⟨l1, l2, l3, l4⟩ := h.lengths
  cases r
  case nr11 => exact { h with lengths := ⟨Nat.sub_le .., l2, l3, l4⟩ }
  case nr14 => exact h.writeNr14 v
  case nr21 => exact { h with lengths := ⟨l1, Nat.sub_le .., l3, l4⟩ }
  case nr24 => exact h.withChannels h.ch1 (h.ch2.write4 v) h.ch3 h.ch4
  case nr31 => exact { h with lengths := ⟨l1, l2, Nat.sub_le .., l4⟩ }
  case nr34 => exact h.withChannels h.ch1 h.ch2 (h.ch3.write34 v) h.ch4
  case nr41 => exact { h with lengths := ⟨l1, l2, l3, Nat.sub_le ..⟩ }
  case nr44 => exact h.withChannels h.ch1 h.ch2 h.ch3 (h.ch4.write44 v)
  case nr52 => exact h.writeNr52 v
  all_goals exact { h with }

theorem regWrite {s : State} (h : SoundWf s.sound) (v : Byte) (r : IoReg) : SoundWf (regWrite s v r).sound := by
  rw [regWrite_sound]
  exact h.soundRegWrite v r

theorem memWrite {s : State} (h : SoundWf s.sound) (a : Word) (v : Byte) : SoundWf (memWrite s a v).sound := by
  refine memWrite_induct (P := fun t => SoundWf t.sound) s v h ?control (fun _ => h) ?window (h.regWrite v) h a
  case control =>
    intro n
    obtain ⟨_, _, hf⟩ := cartControlWrite_frame s n v
    rw [hf]; exact h
  case window =>
    intro n
    obtain ⟨_, _, _, _, hf⟩ := cartRamWrite_frame s n v
    rw [hf]; exact h

/-! ### The frame sequencer -/

theorem clockLengths (h : SoundWf d) : SoundWf (clockLengths d) :=
  h.withChannels ⟨lengthClock_le h.ch1.length _, h.ch1.env, h.ch1.dutyPos⟩
    ⟨lengthClock_le h.ch2.length _, h.ch2.env, h.ch2.dutyPos⟩
    ⟨lengthClock_le h.ch3.length _, h.ch3.wavePos⟩ ⟨lengthClock_le h.ch4.length _, h.ch4.env⟩

theorem clockEnvelopes (h : SoundWf d) : SoundWf (clockEnvelopes d) :=
  h.withChannels ⟨h.ch1.length, envelopeClock_le h.ch1.env _ _, h.ch1.dutyPos⟩
    ⟨h.ch2.length, envelopeClock_le h.ch2.env _ _, h.ch2.dutyPos⟩ h.ch3 ⟨h.ch4.length, envelopeClock_le h.ch4.env _ _⟩

/-- A frequency is written back only within its eleven bits (R570). -/
theorem sweepUpdate (h : SoundWf d) : SoundWf (sweepUpdate d) := by
  unfold Machine.sweepUpdate
  dsimp only
  split
  · split
    · rename_i hn
      have written : SoundWf (sweepWriteBack (Machine.sweepCheck d) (sweepTarget d.sweep)) :=
        { h.sweepCheck with sweepShadow := hn.1 }
      exact written.sweepCheck
    · exact h.sweepCheck
  · exact h

theorem clockSweep (h : SoundWf d) : SoundWf (clockSweep d) := by
  have ht : (if d.sweep.timer > 0 then d.sweep.timer - 1 else d.sweep.timer) ≤ 8 := by
    have := h.sweepTimer
    split <;> omega
  unfold Machine.clockSweep
  dsimp only
  generalize (if d.sweep.timer > 0 then d.sweep.timer - 1 else d.sweep.timer) = t at ht
  split
  · split
    · exact (h.withSweep (w := { d.sweep with timer := sweepReload d.sweep }) (sweepReload_le _) h.sweepShadow).sweepUpdate
    · exact h.withSweep (w := { d.sweep with timer := t }) ht h.sweepShadow
  · exact h

theorem frameSequencer (h : SoundWf d) (p : Nat) : SoundWf (frameSequencer d p) := by
  have lengths : SoundWf (if p % 2 = 0 then Machine.clockLengths d else d) := by
    split
    exacts [h.clockLengths, h]
  unfold Machine.frameSequencer
  dsimp only
  generalize (if p % 2 = 0 then Machine.clockLengths d else d) = d1 at lengths
  have sweep : SoundWf (if p = 2 ∨ p = 6 then Machine.clockSweep d1 else d1) := by
    split
    exacts [lengths.clockSweep, lengths]
  generalize (if p = 2 ∨ p = 6 then Machine.clockSweep d1 else d1) = d2 at sweep
  split
  exacts [sweep.clockEnvelopes, sweep]

/-! ### Ticks -/

/-- One gated T-cycle: the frame sequencer's counters wrap, the channels tick (R561, R566). -/
theorem soundClock (h : SoundWf d) : SoundWf (soundClock d) := by
  have hfs := h.fsAcc
  have sequenced : SoundWf (if d.fsAcc + 1 = 8192 then
      { Machine.frameSequencer d d.fsPhase with fsAcc := 0, fsPhase := (d.fsPhase + 1) % 8 }
      else { d with fsAcc := d.fsAcc + 1 }) := by
    split
    · exact { h.frameSequencer d.fsPhase with
        fsAcc := by change 0 < 8192; decide, fsPhase := Nat.mod_lt _ (by decide) }
    · exact { h with fsAcc := by change d.fsAcc + 1 < 8192; omega }
  unfold Machine.soundClock
  split
  · exact sequenced.withChannels sequenced.ch1.tick sequenced.ch2.tick sequenced.ch3.tick sequenced.ch4.tick
  · exact h

/-- The sample accumulator wraps at the clock rate (R576). -/
theorem soundTick (h : SoundWf d) (mem : Memory) : SoundWf (soundTick mem d).1 := by
  have hc := h.soundClock
  have hs := hc.sampleAcc
  unfold Machine.soundTick
  generalize Machine.soundClock d = d1 at hc hs
  have wrapped : ∀ acc, acc < 4194304 → SoundWf { d1 with sampleAcc := acc } := fun acc ha => { hc with sampleAcc := ha }
  by_cases hw : d1.sampleAcc + 44100 ≥ 4194304
  · simp only [hw, if_true]
    exact wrapped _ (by omega)
  · simp only [hw, if_false]
    exact wrapped _ (by omega)

theorem soundTicks (h : SoundWf d) (mem : Memory) (n : Nat) : SoundWf (soundTicks mem n d).1 := by
  induction n generalizing d with
  | zero => exact h
  | succ n ih =>
    have ht := h.soundTick mem
    unfold Machine.soundTicks
    generalize Machine.soundTick mem d = r at ht ⊢
    exact ih ht

end SoundWf

end Sys2Proof.Machine
end

section
/-! SUPPORT. The devices' own advance keeps their counters in range, and with that every step keeps every invariant (O37). -/

namespace Sys2Proof.Machine

/-! ## The devices -/

/-- At most the largest of the four thresholds (R39). -/
theorem timerThreshold_range (tac : BitVec 3) : 0 < timerThreshold tac ∧ timerThreshold tac ≤ 1024 := by
  revert tac; decide

/-- After the timer has advanced, TIMA's accumulator is below the threshold that TAC selects (R70, R451). -/
theorem timerStep_counters (n : Nat) {s : State} (h : AccumulatorsWf s) :
    (timerStep n s).timer.divAcc < 256 ∧ (timerStep n s).timer.timaAcc < 1024
      ∧ ((timerStep n s).timer.tac.getLsbD 2 = true →
        (timerStep n s).timer.timaAcc < timerThreshold (timerStep n s).timer.tac) := by
  obtain ⟨x, f, ht⟩ := timerStep_frame n s
  obtain ⟨hp, hle⟩ := timerThreshold_range s.timer.tac
  have hm := Nat.mod_lt (s.timer.timaAcc + n) hp
  have hd : (s.timer.divAcc + n) % 256 < 256 := Nat.mod_lt _ (by decide)
  have ha := h.timaAcc
  rw [ht]
  refine ⟨hd, ?_, fun hon => ?_⟩
  · dsimp only
    split <;> omega
  · change s.timer.tac.getLsbD 2 = true at hon
    simp only [hon, if_true]
    exact hm

theorem serialStep_counters (n : Nat) {s : State} (h : s.serial.bitCount < 8) :
    (serialStep n s).serial.acc < 512 ∧ (serialStep n s).serial.bitCount < 8 := by
  obtain ⟨d, f, p, o, hs, ha, hb⟩ := serialStep_frame n s
  rw [hs]
  exact ⟨ha, hb h⟩

/-- The delayed enable counts down, and IME is set only when nothing is left scheduled (R27, R404). -/
theorem EnableWf.endOfStep {s : State} (h : EnableWf s) : EnableWf (endOfStep s) := by
  have hb := h.bound
  unfold Machine.endOfStep
  split
  · split
    · exact ⟨by simp, fun h => absurd h (by simp)⟩
    · exact ⟨by simp only; omega, fun _ => h.exclusive ‹_›⟩
  · exact h

theorem EnableWf.congr {s t : State} (h : EnableWf s) (he : t.eiDelay = s.eiDelay) (hi : t.ime = s.ime) : EnableWf t :=
  ⟨he ▸ h.bound, fun ht => hi ▸ h.exclusive (he ▸ ht)⟩

/-- LY and the cycle in the line stay in their ranges while at most one line is advanced (R521). -/
theorem DisplayWf.advanceLine {s : State} (h : DisplayWf s) {n : Nat} (hn : n ≤ 456) :
    DisplayWf (withLcd s (advanceLine n s.lcd)) := by
  have hl := h.lineCycles
  unfold Machine.advanceLine
  split
  · refine ⟨?_, by change _ - 456 < 456; omega, h.bgCode, h.rows, h.columns⟩
    have := Nat.mod_lt (s.lcd.ly.toNat + 1) (y := 154) (by decide)
    change (BitVec.ofNat 8 ((s.lcd.ly.toNat + 1) % 154)).toNat ≤ 153
    rw [BitVec.toNat_ofNat]
    omega
  · exact ⟨h.ly, by change _ + n < 456; omega, h.bgCode, h.rows, h.columns⟩

/-- A rasterized line has 160 columns and replaces a row of the frame buffer (R530). -/
theorem DisplayWf.rasterize {s : State} (h : DisplayWf s) (y : Nat) :
    DisplayWf (withLcd s (rasterize s.mem s.lcd y)) := by
  have row : ∀ f : Nat → BitVec 2, ((List.range 160).map f).length = 160 := fun f => by simp
  refine ⟨h.ly, h.lineCycles, row _, (List.length_set ..).trans h.rows, fun r hr => ?_⟩
  rcases List.mem_or_eq_of_mem_set hr with hr | rfl
  exacts [h.columns r hr, row _]

theorem DisplayWf.requestStat {s : State} (h : DisplayWf s) (b : Nat) : DisplayWf (requestStat b s) := by
  unfold Machine.requestStat
  split
  exacts [h.congr_lcd rfl, h]

theorem DisplayWf.enterMode {s : State} (h : DisplayWf s) (m : BitVec 2) : DisplayWf (enterMode m s) := by
  unfold Machine.enterMode
  split
  · exact (h.rasterize _).requestStat 3
  · exact DisplayWf.requestStat (s := withLcd (request .vblank s) (completeFrame s.lcd)) (h.congr rfl rfl rfl rfl) 4
  · exact h.requestStat 5
  · exact h

theorem DisplayWf.evaluateMode {s : State} (h : DisplayWf s) : DisplayWf (evaluateMode s) := by
  unfold Machine.evaluateMode
  dsimp only
  split
  exacts [h, DisplayWf.enterMode (s := withLcd s (setMode s.lcd (modeOf s.lcd))) (h.congr rfl rfl rfl rfl) _]

theorem DisplayWf.coincidence {s : State} (h : DisplayWf s) : DisplayWf (coincidence s) :=
  iteInduction (motive := DisplayWf) (fun _ => h.congr rfl rfl rfl rfl) (fun _ => h.congr rfl rfl rfl rfl)

/-- `DisplayStep(n)` keeps the display's counters and buffers in range (R520, R521). -/
theorem DisplayWf.displayStep {s : State} (h : DisplayWf s) {n : Nat} (hn : n ≤ 456) : DisplayWf (displayStep n s) := by
  unfold Machine.displayStep
  split
  · exact (h.advanceLine hn).evaluateMode.coincidence
  · exact ⟨by change 0 ≤ 153; decide, by change 0 < 456; decide, h.bgCode, h.rows, h.columns⟩

/-! ## Within a step -/

/-- The invariants at any point of a step's CPU part: those of `Inv`, TIMA's accumulator bounded by the largest threshold
only, and the reported cycles at most the largest cost. -/
structure CpuInv (s : State) : Prop where
  flags : FlagsWf s
  storage : StorageWf s
  enable : EnableWf s
  banks : BanksWf s
  clock : ClockWf s
  accumulators : AccumulatorsWf s
  display : DisplayWf s
  sound : SoundWf s.sound
  cycles : s.cycles ≤ 24

theorem flagsWf_cpuKeeps : CpuKeeps FlagsWf where
  data h hs := by cases h with | mk r n o hf hn => exact hf hs
  control h hs := by cases h; exact hs
  write a v hs := by unfold FlagsWf; rw [memWrite_regs]; exact hs
  lines _ hs := hs
  fetchAddr _ hs := hs

theorem enableWf_cpuKeeps : CpuKeeps EnableWf where
  data h hs := by cases h; exact hs.congr rfl rfl
  control h hs := by cases h with | mk im ei rs hb tm he ht => exact ⟨(he hs).1, (he hs).2⟩
  write a v hs := hs.congr (memWrite_eiDelay ..) (memWrite_ime ..)
  lines _ hs := hs.congr rfl rfl
  fetchAddr _ hs := hs.congr rfl rfl

theorem accumulatorsWf_cpuKeeps : CpuKeeps AccumulatorsWf where
  data h hs := by cases h; exact hs.congr rfl rfl
  control h hs := by
    cases h with | mk im ei rs hb tm he ht => ?_
    rcases ht with rfl | rfl
    · exact hs.congr rfl rfl
    · exact ⟨by change 0 < 256; decide, hs.timaAcc, hs.serialAcc, hs.bitCount⟩
  write a v hs := hs.memWrite a v
  lines _ hs := hs.congr rfl rfl
  fetchAddr _ hs := hs.congr rfl rfl

theorem cycles_cpuKeeps : CpuKeeps (fun s => s.cycles ≤ 24) where
  data h hs := by cases h with | mk r n o hf hn => exact hn.elim (fun e => e ▸ hs) id
  control h hs := by cases h; exact hs
  write a v hs := by rw [memWrite_cycles]; exact hs
  lines _ hs := hs
  fetchAddr _ hs := hs

theorem banksWf_cpuKeeps : CpuKeeps BanksWf :=
  .of_sameUnits (fun h u => h.congr (congrArg _ u.mbc) (congrArg _ u.mbc) u.cart) (fun a v h => h.memWrite a v)

theorem clockWf_cpuKeeps : CpuKeeps ClockWf :=
  .of_sameUnits (fun h u => h.congr u.mbc) (fun a v h => h.memWrite a v)

theorem displayWf_cpuKeeps : CpuKeeps DisplayWf :=
  .of_sameUnits (fun h u => h.congr_lcd u.lcd) (fun a v h => h.memWrite a v)

theorem soundWf_cpuKeeps : CpuKeeps (fun s => SoundWf s.sound) :=
  .of_sameUnits (fun h u => u.sound ▸ h) (fun a v h => SoundWf.memWrite h a v)

/-- The CPU part of a step keeps the invariants. -/
theorem CpuInv.cpuStep {s t : State} (h : CpuInv s) (hs : cpuStep s = .next t) : CpuInv t where
  flags := flagsWf_cpuKeeps.cpuStep hs h.flags
  storage := storageWf_cpuKeeps.cpuStep hs h.storage
  enable := enableWf_cpuKeeps.cpuStep hs h.enable
  banks := banksWf_cpuKeeps.cpuStep hs h.banks
  clock := clockWf_cpuKeeps.cpuStep hs h.clock
  accumulators := accumulatorsWf_cpuKeeps.cpuStep hs h.accumulators
  display := displayWf_cpuKeeps.cpuStep hs h.display
  sound := soundWf_cpuKeeps.cpuStep hs h.sound
  cycles := cycles_cpuKeeps.cpuStep hs h.cycles

theorem Inv.beginStep {s : State} (h : Inv s) : CpuInv (beginStep s) where
  flags := by unfold FlagsWf; rw [beginStep_regs]; exact h.flags
  storage := h.storage.congr (beginStep_mem s) (beginStep_eram s) (beginStep_cart s)
  enable := h.enable.congr (beginStep_eiDelay s) (beginStep_ime s)
  banks := h.banks.congr (congrArg _ (beginStep_mbc s)) (congrArg _ (beginStep_mbc s)) (beginStep_cart s)
  clock := h.clock.congr (beginStep_mbc s)
  accumulators := AccumulatorsWf.congr ⟨h.counters.divAcc, h.counters.timaAcc, h.counters.serialAcc, h.counters.bitCount⟩
    (beginStep_timer s) (beginStep_serial s)
  display := by
    have hl := beginStep_lcd s
    exact h.display.congr (hl ▸ rfl) (hl ▸ rfl) (hl ▸ rfl) (hl ▸ rfl)
  sound := (beginStep_sound s).symm ▸ h.sound
  cycles := (beginStep_cycles s).symm ▸ Nat.zero_le 24

/-! ## The end of a step -/

/-- The end of a step turns the invariants of the CPU part into those between steps: the timer has counted. -/
theorem CpuInv.finishStep {s : State} (h : CpuInv s) : Inv (finishStep s) := by
  have accumulators : AccumulatorsWf (endOfStep s) :=
    h.accumulators.congr (endOfStep_timer s) (endOfStep_serial s)
  obtain ⟨hd, ht, hth⟩ := timerStep_counters s.cycles accumulators
  obtain ⟨ha, hb⟩ := serialStep_counters s.cycles (s := soundStep s.cycles (displayStep s.cycles
    (timerStep s.cycles (endOfStep s)))) (by simpa using h.accumulators.bitCount)
  have timed : DisplayWf (timerStep s.cycles (endOfStep s)) := h.display.congr_lcd (by simp)
  have display := timed.displayStep (n := s.cycles) (h.cycles.trans (by decide))
  have hdev := finishStep_devicesOnly s
  refine ⟨?flags, ?storage, ?enable, ?banks, ?clock, ?counters, display.congr_lcd (finishStep_lcd s), ?sound⟩
  case enable => exact h.enable.endOfStep.congr (finishStep_eiDelay s) (finishStep_ime s)
  case counters =>
    refine ⟨?_, ?_, ?_, ?_, ?_⟩ <;> simp only [finishStep_timer, finishStep_serial] <;> assumption
  case sound => rw [finishStep_sound]; exact h.sound.soundTicks _ _
  all_goals
    generalize Machine.finishStep s = t at hdev
    cases hdev
  case flags => exact h.flags
  case storage => exact h.storage.congr rfl rfl rfl
  case banks => exact h.banks.congr rfl rfl rfl
  case clock => exact h.clock.congr rfl

/-! ## The fatal state -/

theorem isFaulted_eq_of_runState {s t : State} (h : t.runState = s.runState) : isFaulted t = isFaulted s := by
  simp only [isFaulted, h]

theorem isFaulted_halt {s : State} (h : isFaulted s = false) : isFaulted (halt s) = false := by
  unfold halt
  repeat' split
  exacts [rfl, h, h]

theorem enableInterrupts_runState (s : State) : (enableInterrupts s).runState = s.runState := by
  unfold enableInterrupts
  split <;> rfl

theorem returnFromInterrupt_runState (s : State) : (returnFromInterrupt s).runState = s.runState := by
  simp [returnFromInterrupt, pop16_eq]

/-- Only an illegal opcode raises the fatal state (R327, R430). -/
theorem exec_faulted {s t : State} {i : Instr} (h : exec i s = .next t) (hs : isFaulted s = false)
    (ht : isFaulted t = true) : ∃ op, t = raiseIllegal op s := by
  have unchanged : t.runState = s.runState → ∃ op, t = raiseIllegal op s := fun hr => by
    rw [isFaulted_eq_of_runState hr, hs] at ht
    cases ht
  have plain : controlInstr i = false → ∃ op, t = raiseIllegal op s := fun hc => by
    have hk := exec_controlState h hc
    simp only [controlState, Prod.mk.injEq] at hk
    obtain ⟨-, -, hr, -⟩ := hk
    exact unchanged hr
  have hshape := exec_shape s i
  rw [h] at hshape
  generalize hr : (Host.Outcome.next t : Result) = r at hshape
  cases hshape
  case illegal op hi hm hf => cases hr; exact ⟨op, rfl⟩
  case reti => cases hr; exact unchanged (returnFromInterrupt_runState s)
  case halt => cases hr; cases ht.symm.trans (isFaulted_halt hs)
  case stop => cases hr; cases ht
  case di => cases hr; exact unchanged rfl
  case ei => cases hr; exact unchanged (enableInterrupts_runState s)
  all_goals
    rename_i hf
    exact plain hf.plain

/-- Fetching changes the registers, the pending HALT bug and the position of BUTTONS only (R405). -/
theorem fetchByte_frame (s : State) : ∃ r hb b, (fetchByte s).2
    = { s with regs := r, haltBugPending := hb, host := { s.host with buttons := b } } := by
  have read : ∃ b, afterRead s s.regs.pc = { s with host := { s.host with buttons := b } } := by
    unfold afterRead
    split
    exacts [⟨_, rfl⟩, ⟨s.host.buttons, rfl⟩]
  obtain ⟨b, hb⟩ := read
  by_cases hh : s.haltBugPending = true
  · rw [fetchByte_haltBug hh, hb]
    exact ⟨s.regs, false, b, rfl⟩
  · rw [fetchByte_eq (Bool.eq_false_iff.mpr hh), hb]
    exact ⟨_, s.haltBugPending, b, rfl⟩

theorem fetchBytes_frame (n : Nat) (s : State) : ∃ r hb b, (fetchBytes n s).2
    = { s with regs := r, haltBugPending := hb, host := { s.host with buttons := b } } := by
  induction n generalizing s with
  | zero => exact ⟨s.regs, s.haltBugPending, s.host.buttons, rfl⟩
  | succ n ih =>
    obtain ⟨r, hb, b, h⟩ := fetchByte_frame s
    obtain ⟨r', hb', b', h'⟩ := ih (fetchByte s).2
    refine ⟨r', hb', b', h'.trans ?_⟩
    rw [h]

theorem fetchInstr_frame (s : State) : ∃ r hb b, (fetchInstr s).2
    = { s with regs := r, haltBugPending := hb, host := { s.host with buttons := b } } := by
  obtain ⟨r, hb, b, h⟩ := fetchByte_frame s
  obtain ⟨r', hb', b', h'⟩ := fetchBytes_frame (instrLength (fetchByte s).1 - 1) (fetchByte s).2
  refine ⟨r', hb', b', h'.trans ?_⟩
  rw [h]

/-- A step that raises the fatal state left the timer alone: the illegal opcode was fetched and not executed. -/
theorem runOrDispatch_faulted {s t : State} (h : runOrDispatch s = .next t) (hs : isFaulted s = false)
    (ht : isFaulted t = true) : t.timer = s.timer := by
  unfold runOrDispatch at h
  split at h
  · cases h
    have hr : (dispatch s).runState = s.runState := by simp [dispatch]
    rw [isFaulted_eq_of_runState hr, hs] at ht
    cases ht
  · obtain ⟨r, hb, b, hf⟩ := fetchInstr_frame { s with instrAddr := s.regs.pc }
    change exec _ (fetchInstr { s with instrAddr := s.regs.pc }).2 = .next t at h
    rw [hf] at h
    obtain ⟨op, rfl⟩ := exec_faulted h hs ht
    rfl

theorem cpuStep_faulted {s t : State} (h : cpuStep s = .next t) (hs : isFaulted s = false) (ht : isFaulted t = true) :
    t.timer = s.timer := by
  have idle : ∀ {u : State}, idleStep u = .next t → isFaulted u = false → t.timer = u.timer := fun hi hu => by
    cases hi; cases ht.symm.trans hu
  unfold cpuStep at h
  split at h
  · exact runOrDispatch_faulted h hs ht
  · split at h
    · exact idle h hs
    · exact runOrDispatch_faulted (s := { s with runState := .running }) h rfl ht
  · split at h
    · exact runOrDispatch_faulted (s := { drawButtons s with runState := .running }) h rfl ht
    · exact idle (u := drawButtons s) h hs
  · cases h

/-- In a step that ends in the fatal state the invariants hold as they did, the timer not having moved. -/
theorem CpuInv.of_timer {s t : State} (h : CpuInv t) (hs : Inv s) (ht : t.timer = s.timer) : Inv t where
  flags := h.flags
  storage := h.storage
  enable := h.enable
  banks := h.banks
  clock := h.clock
  counters := ⟨h.accumulators.divAcc, h.accumulators.timaAcc, ht ▸ hs.counters.threshold, h.accumulators.serialAcc,
    h.accumulators.bitCount⟩
  display := h.display
  sound := h.sound

/-- Settles O37: the CPU part keeps `CpuInv`; the end of the step restores the timer's threshold, and a step that faults has
not touched the timer. -/
theorem stepKeepsInv : Obligations.StepKeepsInv := by
  intro s t hs h
  obtain ⟨u, hf, hu, ⟨hfu, rfl⟩ | ⟨-, rfl⟩⟩ := step_cases h
  · have ht := cpuStep_faulted hu (by simpa using hf) hfu
    exact (hs.beginStep.cpuStep hu).of_timer hs (ht.trans (beginStep_timer s))
  · exact (hs.beginStep.cpuStep hu).finishStep

end Sys2Proof.Machine
end

section
/-! SUPPORT. The power-on state meets every invariant (O35), and the reset state is one power-on state (O34). -/

namespace Sys2Proof.Machine

/-- POWER_ON_FILL's memory is in canonical form. -/
theorem filledMem_wf (fill : Memory) : Memory.wf (filledMem fill) :=
  List.foldlRecOn (motive := Memory.wf) _ _ Memory.wf_nil fun _ hm _ _ => Memory.write_wf hm _ _

/-- What POWER_ON_FILL reaches is storage (R67, R80). -/
theorem isMemAddr_of_filledAt {n : Nat} (h : filledAt n = true) : isMemAddr n = true := by
  simp only [filledAt, isMemAddr, Bool.or_eq_true, Bool.and_eq_true, decide_eq_true_eq] at h ⊢
  omega

/-- The initial external RAM is a canonical list of exactly the cartridge's bytes (R80, R592). -/
theorem initialEram_eq (c : Cart) (save : Option (List Byte)) (fill : Memory) :
    ∃ bytes, bytes.length = eramSize c ∧ initialEram c save fill = Memory.ofBytes 0 bytes := by
  have filled : (eramDump c fill).length = eramSize c := by simp [eramDump]
  unfold initialEram
  split
  · split
    · exact ⟨_, (List.length_map _).trans ‹_›, rfl⟩
    · exact ⟨_, filled, rfl⟩
  · exact ⟨_, filled, rfl⟩

theorem StorageWf.powerOnBase (p : Params) (h : HostIn) (c : Cart) : StorageWf (powerOnBase p h c) := by
  obtain ⟨bytes, hlen, he⟩ := initialEram_eq c p.saveRam p.fill.eram
  obtain ⟨hw, hr⟩ := Memory.ofBytes_wf bytes 0
  refine ⟨filledMem_wf _, fun x hx => isMemAddr_of_filledAt (filledMem_filledAt _ x hx), ?_, ?_⟩
  · change Memory.wf (initialEram c p.saveRam p.fill.eram)
    rw [he]; exact hw
  · change ∀ x ∈ initialEram c p.saveRam p.fill.eram, x.1 < eramSize c
    rw [he, ← hlen]
    exact fun x hx => by have := (hr x hx).2; omega

theorem SoundWf.zero : SoundWf Sound.zero := by
  constructor <;> decide

/-- The state that both boot modes share meets every invariant (R80, R601, R602). -/
theorem Inv.powerOnBase (p : Params) (h : HostIn) (c : Cart) : Inv (powerOnBase p h c) where
  flags := by
    change (p.fill.f &&& 0xF0#8) &&& 0x0F#8 = 0#8
    rw [BitVec.and_assoc]; simp
  storage := .powerOnBase p h c
  enable := ⟨by change 0 ≤ 2; decide, fun hd => absurd hd (by change ¬ 0 > 0; decide)⟩
  banks := ⟨by change 1#5 ≠ 0#5; decide, by change 1#7 ≠ 0#7; decide, fun _ => by change (1#7).toNat < 16; decide⟩
  clock := ⟨initialClock_wf _, initialClock_wf _⟩
  counters := ⟨by change 0 < 256; decide, by change 0 < 1024; decide,
    fun hd => absurd hd (by change ¬ (0#3).getLsbD 2 = true; decide), by change 0 < 512; decide, by change 0 < 8; decide⟩
  display := ⟨by change 0 ≤ 153; decide, by change 0 < 456; decide, List.length_replicate, List.length_replicate,
    fun row hr => (List.eq_of_mem_replicate hr).symm ▸ List.length_replicate⟩
  sound := .zero

/-- Handing over to the program keeps the invariants: F is 0xB0, the sound controller's counters stay 0 (R81). -/
theorem Inv.skipBoot {s : State} (h : Inv s) : Inv (skipBoot s) where
  flags := by change 0xB0#8 &&& 0x0F#8 = 0#8; decide
  storage := h.storage.congr rfl rfl rfl
  enable := h.enable.congr rfl rfl
  banks := h.banks.congr rfl rfl rfl
  clock := h.clock.congr rfl
  counters := ⟨h.counters.divAcc, h.counters.timaAcc, h.counters.threshold, h.counters.serialAcc, h.counters.bitCount⟩
  display := h.display.congr rfl rfl rfl rfl
  sound := by
    change SoundWf handoverSound
    constructor <;> decide

/-- Settles O35: the shared state meets the invariants and `skipBoot` keeps them. -/
theorem powerOnMeetsInv : Obligations.PowerOnMeetsInv :=
  fun p h _ hs => powerOn_induct hs (Inv.powerOnBase p h) (fun _ => Inv.skipBoot)

/-- The reset state is the power-on state of the default parameters with its own cartridge (log 1). -/
theorem reset_eq_powerOnBase : State.reset = powerOnBase Params.default HostIn.quiet State.reset.cart := rfl

/-- Settles O34: the reset state is a power-on state. -/
theorem resetMeetsInv : Obligations.ResetMeetsInv := by
  unfold Obligations.ResetMeetsInv
  rw [reset_eq_powerOnBase]
  exact .powerOnBase ..

end Sys2Proof.Machine
end

section
/-! SUPPORT. Bus accesses of the I/O page by register: the write of a register (R111, R116), what it reads back, and the
addresses without one (R66); then the placeholders (O43) and the read-back values (O44). -/

namespace Sys2Proof.Machine

open Sys2Proof.Claims

/-! ## Addresses -/

/-- Wave RAM is no register. -/
theorem ioRegAt_wave {n : Nat} (h : isWaveRam n = true) : ioRegAt n = none := by
  cases hr : ioRegAt n with
  | none => rfl
  | some r =>
    have := (by decide : ∀ p ∈ ioMap, isWaveRam p.1 = false) _ (ioRegAt_mem hr)
    cases h.symm.trans this

/-- The unmapped addresses have no register and are no wave RAM (R66). -/
theorem ioRegAt_unmapped {n : Nat} (h : unmappedIo n) :
    ioRegAt n = none ∧ isWaveRam n = false ∧ 0xFF00 ≤ n ∧ n ≤ 0xFF7F := by
  have listed : ∀ p ∈ ioMap, ¬unmappedIo p.1 := by unfold unmappedIo; decide
  have none : ioRegAt n = none := by
    cases hr : ioRegAt n with
    | none => rfl
    | some r => exact absurd h (listed _ (ioRegAt_mem hr))
  unfold unmappedIo at h
  refine ⟨none, ?_, by omega, by omega⟩
  simp only [isWaveRam, Bool.and_eq_false_iff, decide_eq_false_iff_not]
  omega

/-- A bus read of the I/O page (R110). -/
theorem memRead_ioPage {a : Word} (h1 : 0xFF00 ≤ a.toNat) (h2 : a.toNat ≤ 0xFF7F) (s : State) :
    memRead s a = ioRead s a.toNat := by
  simp only [memRead, readAt]
  iterate 8 rw [if_neg (by omega)]
  rw [if_pos h2]

/-- A bus write of the I/O page (R111). -/
theorem memWrite_ioPage {a : Word} (h1 : 0xFF00 ≤ a.toNat) (h2 : a.toNat ≤ 0xFF7F) (s : State) (v : Byte) :
    memWrite s a v = ioWrite s a.toNat v := by
  simp only [memWrite]
  iterate 7 rw [if_neg (by omega)]
  rw [if_pos h2]

/-- A bus write at the address of a register: the sound gate, then the register's effect (R111, R116). -/
theorem memWrite_ioReg (s : State) {a : Word} {r : IoReg} (h : ioRegAt a.toNat = some r) (v : Byte) :
    memWrite s a v = if r.soundGated = true ∧ s.sound.master = false then s else regWrite s v r := by
  obtain ⟨h1, h2⟩ := ioRegAt_range h
  rw [memWrite_ioPage h1 h2, ioWrite, h]

/-- Where the sound gate lets the write through, it is the register's effect. -/
theorem memWrite_ioReg_open (s : State) {a : Word} {r : IoReg} (h : ioRegAt a.toNat = some r) (v : Byte)
    (hg : r.soundGated = true → s.sound.master = true) : memWrite s a v = regWrite s v r := by
  rw [memWrite_ioReg s h, if_neg]
  rintro ⟨h1, h2⟩
  cases h2.symm.trans (hg h1)

/-- What a register reads right after a write that the sound gate lets through. -/
theorem memRead_memWrite_ioReg (s : State) {a : Word} {r : IoReg} (h : ioRegAt a.toNat = some r) (v : Byte)
    (hg : r.soundGated = true → s.sound.master = true) :
    memRead (memWrite s a v) a = regRead (regWrite s v r) r := by
  rw [memWrite_ioReg_open s h v hg, memRead_ioReg _ a r h]

/-! ## Placeholders and the overlay -/

/-- The unusable region reads 0xFF and ignores writes (R114). -/
theorem unusable_access {a : Word} (h1 : 0xFEA0 ≤ a.toNat) (h2 : a.toNat ≤ 0xFEFF) (s : State) (v : Byte) :
    memRead s a = 0xFF#8 ∧ memWrite s a v = s := by
  simp only [memRead, readAt, memWrite]
  constructor
  · iterate 7 rw [if_neg (by omega)]
    rw [if_pos h2]
  · iterate 6 rw [if_neg (by omega)]
    rw [if_pos h2]

/-- The unmapped I/O addresses read 0xFF and ignore writes (R66). -/
theorem unmappedIo_access {a : Word} (h : unmappedIo a.toNat) (s : State) (v : Byte) :
    memRead s a = 0xFF#8 ∧ memWrite s a v = s := by
  obtain ⟨hr, hw, h1, h2⟩ := ioRegAt_unmapped h
  rw [memRead_ioPage h1 h2, memWrite_ioPage h1 h2, ioRead, ioWrite, hr]
  simp [hw]

/-- Above 0x00FF no read depends on the overlay (R120, R123). -/
theorem memRead_overlay_irrelevant {a : Word} (h : 0x100 ≤ a.toNat) (s : State) :
    memRead { s with bootOverlay := true } a = memRead { s with bootOverlay := false } a := by
  have io : ∀ n, ioRead { s with bootOverlay := true } n = ioRead { s with bootOverlay := false } n := fun n => by
    unfold ioRead
    cases ioRegAt n with
    | none => rfl
    | some r => cases r <;> rfl
  have above : ¬a.toNat ≤ 0x00FF := by omega
  simp only [memRead, readAt, above, and_false, if_false, io]
  rfl

/-- Settles O43, clause by clause. -/
theorem placeholdersAndOverlay : Obligations.PlaceholdersAndOverlay := by
  intro s a v
  refine ⟨?_, fun ho ha => ?_, fun ha => memRead_overlay_irrelevant ha s, memRead_ioReg s _ .boot rfl, ?_⟩
  · rintro (⟨h1, h2⟩ | h)
    exacts [unusable_access h1 h2 s v, unmappedIo_access h s v]
  · simp only [memRead, readAt]
    rw [if_pos ⟨ho, ha⟩]
  · rw [memWrite_ioReg_open s (r := .boot) rfl v (fun h => by cases h), regWrite_boot]
    split
    · simp [*]
    · simp [*]

end Sys2Proof.Machine
end

section
/-! SUPPORT. The read-back values of the I/O registers (O44). -/

namespace Sys2Proof.Machine

open Sys2Proof.Claims

/-! ## Stored bits under the fixed masks -/

/-- P1 reads its select bits and, through them, the button lines (R33). -/
theorem regRead_p1_write (s : State) (v : Byte) : regRead (regWrite s v .p1) .p1
    = 0xC0#8 ||| (v &&& 0x30#8) ||| (linesFor s v).zeroExtend 8 := by
  have select : ∀ v : Byte, 3#2 ++ v.extractLsb' 4 2 ++ 0#4 = 0xC0#8 ||| (v &&& 0x30#8) := by decide
  have join : ∀ (x : BitVec 2) (l : BitVec 4), 3#2 ++ x ++ l = (3#2 ++ x ++ 0#4) ||| l.zeroExtend 8 := by decide
  have lines : inputLines { s with p1Sel := v.extractLsb' 4 2 } = linesFor s v := by
    have d : (v.extractLsb' 4 2).getLsbD 0 = v.getLsbD 4 := by simp
    have a : (v.extractLsb' 4 2).getLsbD 1 = v.getLsbD 5 := by simp
    simp only [inputLines, linesFor, d, a]
    cases v.getLsbD 4 <;> cases v.getLsbD 5 <;> rfl
  change 3#2 ++ v.extractLsb' 4 2 ++ inputLines { s with p1Sel := v.extractLsb' 4 2 } = _
  rw [lines, join, select]

/-- Bits that read as 1 hide which of them are stored. -/
theorem or_and_mask (m k : Byte) (h : m ||| k = 0xFF#8) (v : Byte) : m ||| (v &&& k) = m ||| v := by
  have distrib : m ||| (v &&& k) = (m ||| v) &&& (m ||| k) := by
    ext i hi
    simp [Bool.or_and_distrib_left]
  rw [distrib, h]
  exact BitVec.and_allOnes

theorem writeNr14_nrx4 (d : Sound) (v : Byte) : (writeNr14 d v).ch1.nrx4 = storedNrx4 v := by
  unfold writeNr14
  dsimp only
  split
  · unfold triggerCh1 sweepCheck
    dsimp only
    repeat' split
    all_goals rfl
  · rfl

theorem writeSquare4_nrx4 (q : Square) (v : Byte) : (writeSquare4 q v).nrx4 = storedNrx4 v := by
  unfold writeSquare4
  dsimp only
  split <;> rfl

theorem writeNr34_nr34 (w : Wave) (v : Byte) : (writeNr34 w v).nr34 = storedNrx4 v := by
  unfold writeNr34
  dsimp only
  split <;> rfl

theorem writeNr44_nr44 (n : Noise) (v : Byte) : (writeNr44 n v).nr44 = v &&& 0x40#8 := by
  unfold writeNr44
  dsimp only
  split <;> rfl

/-- STAT keeps its mode and coincidence bits and reads bit 7 as 1 (R59). -/
theorem stat_bits (v x : Byte) :
    0x80#8 ||| (0x80#8 ||| (v &&& 0x78#8) ||| (x &&& 0x07#8)) = 0x80#8 ||| (v &&& 0x78#8) ||| (x &&& 0x07#8) := by
  rw [← BitVec.or_assoc, ← BitVec.or_assoc, BitVec.or_self]

/-- Wave RAM reads back what was written (R57). -/
theorem memRead_memWrite_wave {s : State} (hm : Memory.wf s.mem) {a : Word} (h1 : 0xFF30 ≤ a.toNat) (h2 : a.toNat ≤ 0xFF3F)
    (v : Byte) : memRead (memWrite s a v) a = v := by
  have hw : isWaveRam a.toNat = true := by simp [isWaveRam, h1, h2]
  rw [memWrite_ioPage (by omega) (by omega), memRead_ioPage (by omega) (by omega), ioWrite, ioRegAt_wave hw]
  simp only [hw, if_true, ioRead, ioRegAt_wave hw]
  exact Memory.read_write_same hm _ v

/-- IE reads back all eight bits (R30). -/
theorem memRead_memWrite_ie (s : State) (v : Byte) : memRead (memWrite s 0xFFFF#16 v) 0xFFFF#16 = v := by
  simp [memRead, readAt, memWrite]

/-- Settles O44: each register reads back its stored bits under its fixed mask. -/
theorem registerReadback : Obligations.RegisterReadback := by
  intro s v hm
  dsimp only
  have reads := fun (a : Word) (r : IoReg) (h : ioRegAt a.toNat = some r) (hg : r.soundGated = false) =>
    memRead_memWrite_ioReg s h v (fun hr => by cases hg.symm.trans hr)
  refine ⟨⟨?_, ?_, ?_, ?_, ?_, ?_, ?_, ?_, memRead_memWrite_ie s v⟩, ⟨?_, ?_, ?_, ?_, ?_, ?_, ?_, ?_, ?_, ?_, ?_, ?_⟩, ?_,
    fun a h1 h2 => memRead_memWrite_wave hm h1 h2 v⟩
  · exact (reads _ .p1 rfl rfl).trans (regRead_p1_write s v)
  · exact reads _ .sb rfl rfl
  · refine (reads _ .sc rfl rfl).trans ?_
    change 0x7E#8 ||| (v &&& 0x81#8 &&& 0x81#8) = _
    rw [BitVec.and_assoc, BitVec.and_self]
  · exact reads _ .div rfl rfl
  · exact reads _ .tima rfl rfl
  · exact reads _ .tma rfl rfl
  · refine (reads _ .tac rfl rfl).trans ?_
    exact (by decide : ∀ v : Byte, 0x1F#5 ++ v.extractLsb' 0 3 = 0xF8#8 ||| (v &&& 0x07#8)) v
  · refine (reads _ .iflag rfl rfl).trans ?_
    exact (by decide : ∀ v : Byte, 7#3 ++ v.extractLsb' 0 5 = 0xE0#8 ||| (v &&& 0x1F#8)) v
  · exact reads _ .lcdc rfl rfl
  · exact (reads _ .stat rfl rfl).trans (stat_bits v s.lcd.stat)
  · exact reads _ .scy rfl rfl
  · exact reads _ .scx rfl rfl
  · exact reads _ .ly rfl rfl
  · exact reads _ .lyc rfl rfl
  · exact (reads _ .dma rfl rfl).trans (congrArg Lcd.dma (dmaCopy_lcd ..))
  · exact reads _ .bgp rfl rfl
  · exact reads _ .obp0 rfl rfl
  · exact reads _ .obp1 rfl rfl
  · exact reads _ .wy rfl rfl
  · exact reads _ .wx rfl rfl
  · intro hon
    have sound := fun (a : Word) (r : IoReg) (h : ioRegAt a.toNat = some r) =>
      memRead_memWrite_ioReg s h v (fun _ => hon)
    have masked := fun (m k : Byte) (h : m ||| k = 0xFF#8) => or_and_mask m k h v
    refine ⟨⟨?_, sound _ .nr11 rfl, sound _ .nr12 rfl, sound _ .nr13 rfl, ?_⟩,
      ⟨sound _ .nr21 rfl, sound _ .nr22 rfl, sound _ .nr23 rfl, ?_⟩,
      ⟨?_, sound _ .nr31 rfl, ?_, sound _ .nr33 rfl, ?_⟩,
      ⟨sound _ .nr41 rfl, sound _ .nr42 rfl, sound _ .nr43 rfl, ?_, sound _ .nr50 rfl, sound _ .nr51 rfl⟩⟩
    · exact (sound _ .nr10 rfl).trans (masked 0x80#8 0x7F#8 rfl)
    · exact (sound _ .nr14 rfl).trans ((congrArg _ (writeNr14_nrx4 ..)).trans (masked 0xBF#8 0x47#8 rfl))
    · exact (sound _ .nr24 rfl).trans ((congrArg _ (writeSquare4_nrx4 ..)).trans (masked 0xBF#8 0x47#8 rfl))
    · exact (sound _ .nr30 rfl).trans (masked 0x7F#8 0x80#8 rfl)
    · exact (sound _ .nr32 rfl).trans (masked 0x9F#8 0x60#8 rfl)
    · exact (sound _ .nr34 rfl).trans ((congrArg _ (writeNr34_nr34 ..)).trans (masked 0xBF#8 0x47#8 rfl))
    · exact (sound _ .nr44 rfl).trans ((congrArg _ (writeNr44_nr44 ..)).trans (masked 0xBF#8 0x40#8 rfl))

end Sys2Proof.Machine
end

section
/-! SUPPORT. The object-attribute DMA (O45): after `n` bytes OAM holds the first `n` sources as they read before the copy, and
every source still to come reads as it did. -/

namespace Sys2Proof.Machine

/-- The source of OAM entry `i` (R125). -/
def dmaSource (v : Byte) (i : Nat) : Word := mkWord v 0#8 + BitVec.ofNat 16 i

theorem dmaSource_toNat (v : Byte) {i : Nat} (h : i < 160) : (dmaSource v i).toNat = v.toNat * 256 + i := by
  have hv := v.isLt
  have page : (mkWord v 0#8).toNat = v.toNat * 256 := by
    rw [mkWord, BitVec.toNat_append, Nat.shiftLeft_eq]
    simp
  rw [dmaSource, BitVec.toNat_add, page, BitVec.toNat_ofNat]
  omega

/-- An ungated read of any address but the OAM cell written (R110, R125). -/
theorem rawRead_write_oam {s : State} (hm : Memory.wf s.mem) {k : Nat} (h1 : 0xFE00 ≤ k) (h2 : k ≤ 0xFE9F) (w : Byte)
    {a : Word} (ha : a.toNat ≠ k) : rawRead { s with mem := Memory.write s.mem k w } a = rawRead s a := by
  have cell := Memory.read_write_other hm w ha
  have io := ioRead_write_other hm (k := k) (by simp only [isWaveRam, Bool.and_eq_false_iff, decide_eq_false_iff_not]; omega) w
  have window : ∀ n, cartRamRead { s with mem := Memory.write s.mem k w } n = cartRamRead s n := fun _ => rfl
  simp only [rawRead, readAt, io, window, cell, Bool.false_eq_true, false_and, if_false]
  by_cases he : a.toNat ≤ 0xFDFF
  · rw [Memory.read_write_other hm w (b := a.toNat - 0x2000) (by omega)]
  · simp only [he, if_false]

/-- An ungated read elsewhere than at P1 does not see a BUTTONS answer taken (R481). -/
theorem rawRead_drawButtons {a : Word} (h : a ≠ 0xFF00#16) (s : State) : rawRead (drawButtons s) a = rawRead s a := by
  have io : ioRead (drawButtons s) a.toNat = ioRead s a.toNat := by
    unfold ioRead
    cases hr : ioRegAt a.toNat with
    | none => rfl
    | some r =>
      cases r
      case p1 => exact absurd (BitVec.eq_of_toNat_eq (ioRegAt_p1 hr)) h
      all_goals rfl
  simp only [rawRead, readAt, io]
  rfl

theorem rawRead_afterRead {a : Word} (h : a ≠ 0xFF00#16) (s : State) (b : Word) :
    rawRead (afterRead s b) a = rawRead s a := by
  unfold afterRead
  split
  exacts [rawRead_drawButtons h s, rfl]

/-- One byte copied: OAM entry `i` and the position of BUTTONS change (R125). -/
theorem dmaByte_eq (v : Byte) (s : State) (i : Nat) : dmaByte v s i
    = { afterRead s (dmaSource v i) with mem := Memory.write s.mem (0xFE00 + i) (rawRead s (dmaSource v i)) } := rfl

/-- Copying entry `i` leaves the other sources' reads alone, that of P1 as the first source aside. -/
theorem rawRead_dmaByte {s : State} (hm : Memory.wf s.mem) (v : Byte) {i j : Nat} (hi : i < 160) (hj : j < 160)
    (hij : i < j) : rawRead (dmaByte v s i) (dmaSource v j) = rawRead s (dmaSource v j) := by
  have hs := dmaSource_toNat v hj
  have cell : (dmaSource v j).toNat ≠ 0xFE00 + i := by omega
  have p1 : dmaSource v j ≠ 0xFF00#16 := fun h => by
    rw [h] at hs
    change 0xFF00 = _ at hs
    omega
  have hw := rawRead_write_oam (s := afterRead s (dmaSource v i)) (by rwa [afterRead_mem]) (k := 0xFE00 + i) (by omega)
    (by omega) (rawRead s (dmaSource v i)) cell
  rw [afterRead_mem, ← dmaByte_eq] at hw
  exact hw.trans (rawRead_afterRead p1 s _)

/-- After the first `n` bytes of the DMA copy from page `v` in state `s`. -/
structure DmaCopied (s : State) (v : Byte) (n : Nat) (t : State) : Prop where
  frame : ∃ m b, t = { s with mem := m, host := { s.host with buttons := b } }
  wf : Memory.wf t.mem
  copied : ∀ i, i < n → Memory.read t.mem (0xFE00 + i) = rawRead s (dmaSource v i)
  kept : ∀ k, k < 0xFE00 ∨ 0xFE00 + n ≤ k → Memory.read t.mem k = Memory.read s.mem k
  ahead : ∀ j, n ≤ j → j < 160 → rawRead t (dmaSource v j) = rawRead s (dmaSource v j)

theorem DmaCopied.zero {s : State} (hm : Memory.wf s.mem) (v : Byte) : DmaCopied s v 0 s where
  frame := ⟨s.mem, s.host.buttons, rfl⟩
  wf := hm
  copied _ h := absurd h (Nat.not_lt_zero _)
  kept _ _ := rfl
  ahead _ _ _ := rfl

theorem DmaCopied.succ {s t : State} {v : Byte} {n : Nat} (h : DmaCopied s v n t) (hn : n < 160) :
    DmaCopied s v (n + 1) (dmaByte v t n) := by
  have source := h.ahead n (Nat.le_refl n) hn
  have read : ∀ k, Memory.read (dmaByte v t n).mem k
      = if k = 0xFE00 + n then rawRead s (dmaSource v n) else Memory.read t.mem k := fun k => by
    rw [← source]
    exact Memory.read_write h.wf _ k _
  refine ⟨?frame, Memory.write_wf h.wf _ _, fun i hi => ?copied, fun k hk => ?kept, fun j hj hj' => ?ahead⟩
  case frame =>
    obtain ⟨m, b, rfl⟩ := h.frame
    rw [dmaByte_eq, afterRead]
    split
    exacts [⟨_, _, rfl⟩, ⟨_, _, rfl⟩]
  case copied =>
    rw [read]
    split
    · rw [show i = n by omega]
    · exact h.copied i (by omega)
  case kept => rw [read, if_neg (by omega), h.kept k (by omega)]
  case ahead => exact (rawRead_dmaByte h.wf v hn hj' (by omega)).trans (h.ahead j (by omega) hj')

theorem dmaFold_copied {s : State} (hm : Memory.wf s.mem) (v : Byte) {n : Nat} (hn : n ≤ 160) :
    DmaCopied s v n ((List.range n).foldl (dmaByte v) s) := by
  induction n with
  | zero => exact .zero hm v
  | succ n ih =>
    rw [List.range_succ, List.foldl_append]
    exact (ih (by omega)).succ (by omega)

/-- Settles O45: the whole copy, from the state with DMA stored. -/
theorem objectAttributeDma : Obligations.ObjectAttributeDma := by
  intro s v hm
  dsimp only
  have h := dmaFold_copied (s := withLcd s { s.lcd with dma := v }) hm v (Nat.le_refl 160)
  have e : memWrite s 0xFF46#16 v = (List.range 160).foldl (dmaByte v) (withLcd s { s.lcd with dma := v }) :=
    memWrite_ioReg_open s (r := .dma) rfl v (fun h => by cases h)
  rw [← e] at h
  obtain ⟨m, b, ht⟩ := h.frame
  refine ⟨by rw [ht]; rfl, h.copied, fun n hn => h.kept n (by omega), ?_⟩
  rw [ht]
  rfl

end Sys2Proof.Machine
end

section
/-! SUPPORT. The sound master enable (O55) and the triggers (O56), through the register writes of the sound controller. -/

namespace Sys2Proof.Machine

/-! ## The master enable -/

/-- The registers from 0xFF10 to 0xFF25 are the ones behind the gate (R116). -/
theorem soundGated_of_range {n : Nat} {r : IoReg} (h : ioRegAt n = some r) (h1 : 0xFF10 ≤ n) (h2 : n ≤ 0xFF25) :
    r.soundGated = true :=
  (by decide : ∀ p ∈ ioMap, 0xFF10 ≤ p.1 → p.1 ≤ 0xFF25 → p.2.soundGated = true) _ (ioRegAt_mem h) h1 h2

/-- With the master enable off a write to 0xFF10 to 0xFF25 is dropped (R116). -/
theorem memWrite_sound_off {s : State} (hoff : s.sound.master = false) {a : Word} (h1 : 0xFF10 ≤ a.toNat)
    (h2 : a.toNat ≤ 0xFF25) (v : Byte) : memWrite s a v = s := by
  cases hr : ioRegAt a.toNat with
  | some r => rw [memWrite_ioReg s hr, if_pos ⟨soundGated_of_range hr h1 h2, hoff⟩]
  | none =>
    have hw : isWaveRam a.toNat = false := by
      simp only [isWaveRam, Bool.and_eq_false_iff, decide_eq_false_iff_not]; omega
    rw [memWrite_ioPage (by omega) (by omega), ioWrite, hr]
    simp [hw]

/-- A write of NR52 is never gated (R116, R563). -/
theorem memWrite_nr52 (s : State) (v : Byte) : memWrite s 0xFF26#16 v = withSound s (writeNr52 s.sound v) :=
  memWrite_ioReg_open s (r := .nr52) rfl v (fun h => by cases h)

theorem writeNr52_off {d : Sound} {v : Byte} (hm : d.master = true) (hv : v.getLsbD 7 = false) :
    writeNr52 d v = soundOff d := by
  rw [writeNr52, if_neg (by rw [hv]; decide), if_pos hm]

theorem writeNr52_on {d : Sound} {v : Byte} (hm : d.master = false) (hv : v.getLsbD 7 = true) :
    writeNr52 d v = { d with master := true, fsAcc := 0, fsPhase := 0 } := by
  rw [writeNr52, if_pos hv, if_neg (by rw [hm]; decide)]

theorem writeNr52_same {d : Sound} {v : Byte} (h : d.master = v.getLsbD 7) : writeNr52 d v = d := by
  rw [writeNr52, ← h]
  cases d.master <;> rfl

/-- Turned off, NR52 reads its fixed bits only (R56). -/
theorem readNr52_soundOff (d : Sound) : readNr52 (soundOff d) = 0x70#8 := by
  simp [readNr52, soundOff, clearSquare]

/-- Settles O55: the gate, and NR52 turning the controller off, on, or neither. -/
theorem soundMasterEnable : Obligations.SoundMasterEnable := by
  intro s a v
  dsimp only
  rw [memWrite_nr52]
  refine ⟨fun hoff h1 h2 => memWrite_sound_off hoff h1 h2 v, rfl, fun hm hv => ?off, fun hm hv => writeNr52_on hm hv,
    fun h => writeNr52_same h⟩
  case off =>
    rw [writeNr52_off hm hv]
    have reads := memRead_ioReg (withSound s (soundOff s.sound))
    refine ⟨rfl, rfl, rfl, rfl, rfl, ⟨?_, ?_, ?_, ?_, ?_, ?_, ?_, ?_, ?_, ?_⟩, ⟨?_, ?_, ?_, ?_, ?_, ?_⟩,
      ⟨rfl, rfl, rfl, rfl, rfl, rfl, rfl, rfl, rfl, rfl⟩, rfl, rfl, rfl, rfl⟩
    · exact (reads 0xFF10#16 .nr10 rfl).trans (show 0x80#8 ||| 0#8 = 0x80#8 by decide)
    · exact (reads 0xFF11#16 .nr11 rfl).trans (show 0x3F#8 ||| 0#8 = 0x3F#8 by decide)
    · exact reads 0xFF12#16 .nr12 rfl
    · exact (reads 0xFF14#16 .nr14 rfl).trans (show 0xBF#8 ||| 0#8 = 0xBF#8 by decide)
    · exact (reads 0xFF16#16 .nr21 rfl).trans (show 0x3F#8 ||| 0#8 = 0x3F#8 by decide)
    · exact reads 0xFF17#16 .nr22 rfl
    · exact (reads 0xFF19#16 .nr24 rfl).trans (show 0xBF#8 ||| 0#8 = 0xBF#8 by decide)
    · exact (reads 0xFF1A#16 .nr30 rfl).trans (show 0x7F#8 ||| 0#8 = 0x7F#8 by decide)
    · exact (reads 0xFF1C#16 .nr32 rfl).trans (show 0x9F#8 ||| 0#8 = 0x9F#8 by decide)
    · exact (reads 0xFF1E#16 .nr34 rfl).trans (show 0xBF#8 ||| 0#8 = 0xBF#8 by decide)
    · exact reads 0xFF21#16 .nr42 rfl
    · exact reads 0xFF22#16 .nr43 rfl
    · exact (reads 0xFF23#16 .nr44 rfl).trans (show 0xBF#8 ||| 0#8 = 0xBF#8 by decide)
    · exact reads 0xFF24#16 .nr50 rfl
    · exact reads 0xFF25#16 .nr51 rfl
    · exact (reads 0xFF26#16 .nr52 rfl).trans (readNr52_soundOff s.sound)

/-! ## Triggers -/

/-- The sound part of a write to a sound register, with the master enable on (R116). -/
theorem memWrite_soundReg {s : State} (hon : s.sound.master = true) {a : Word} {r : IoReg}
    (h : ioRegAt a.toNat = some r) (v : Byte) : (memWrite s a v).sound = soundRegWrite s.sound v r := by
  rw [memWrite_ioReg_open s h v (fun _ => hon), regWrite_sound]

/-- The frequency of a channel whose NRx4 was just written (R44, R571). -/
theorem freqValue_stored (v lo : Byte) : freqValue (storedNrx4 v) lo = v.toNat % 8 * 256 + lo.toNat := by
  have low : ∀ v : Byte, (v &&& 0x47#8 &&& 0x07#8).toNat = v.toNat % 8 := by decide
  rw [freqValue, storedNrx4, low]

/-- An envelope register's DAC is on from 8 upwards (R560). -/
theorem envDacOn_iff (nrx2 : Byte) : envDacOn nrx2 = true ↔ 8 ≤ nrx2.toNat := by
  revert nrx2; decide

/-- The envelope a trigger starts: the initial volume and the period (R565). -/
theorem triggerEnv_eq (nrx2 : Byte) : triggerEnv nrx2 = ⟨nrx2.toNat / 16, nrx2.toNat % 8⟩ := by
  revert nrx2; decide

theorem sweepPeriod_eq (w : Sweep) : sweepPeriod w = w.nr10.toNat / 16 % 8 :=
  (by decide : ∀ x : Byte, ((x >>> 4) &&& 0x07#8).toNat = x.toNat / 16 % 8) w.nr10

theorem sweepShift_eq (w : Sweep) : sweepShift w = w.nr10.toNat % 8 :=
  (by decide : ∀ x : Byte, (x &&& 0x07#8).toNat = x.toNat % 8) w.nr10

/-- The sweep's frequency overflows only upwards (R569). -/
theorem sweepTarget_overflows {w : Sweep} (h : w.shadow ≤ 2047) : sweepTarget w > 2047 ↔
    w.nr10.getLsbD 3 = false ∧ w.shadow + w.shadow / 2 ^ sweepShift w > 2047 := by
  unfold sweepTarget
  cases w.nr10.getLsbD 3 with
  | true =>
    have := Nat.sub_le w.shadow (w.shadow / 2 ^ sweepShift w)
    simp only [if_true, Bool.true_eq_false, false_and, iff_false]
    omega
  | false => simp only [Bool.false_eq_true, if_false, true_and]

/-- The sweep as a trigger of channel 1 starts it (R565). -/
def sweepStarted (d : Sound) : Sweep :=
  { d.sweep with
    shadow := freqValue d.ch1.nrx4 d.ch1.nrx3
    timer := sweepReload d.sweep
    en := sweepPeriod d.sweep ≠ 0 ∨ sweepShift d.sweep ≠ 0 }

/-- Channel 1 triggered: its frequency, length and envelope restart, the duty position stays, the sweep starts, and an overflow
of its first calculation, made where the shift is not 0, disables the channel (R565, R569). -/
theorem triggerCh1_eq (d : Sound) : triggerCh1 d = { d with
    ch1 := { triggerSquare d.ch1 with core := { (triggerSquare d.ch1).core with
      en := !decide (sweepShift d.sweep ≠ 0 ∧ sweepTarget (sweepStarted d) > 2047) } }
    sweep := sweepStarted d } := by
  change (if sweepShift d.sweep ≠ 0 then sweepCheck { d with ch1 := triggerSquare d.ch1, sweep := sweepStarted d }
    else { d with ch1 := triggerSquare d.ch1, sweep := sweepStarted d }) = _
  by_cases hs : sweepShift d.sweep ≠ 0
  · rw [if_pos hs, sweepCheck]
    by_cases ht : sweepTarget (sweepStarted d) > 2047
    · rw [if_pos ht]
      rw [decide_eq_true (p := sweepShift d.sweep ≠ 0 ∧ sweepTarget (sweepStarted d) > 2047) ⟨hs, ht⟩]
      rfl
    · rw [if_neg ht]
      rw [decide_eq_false (p := sweepShift d.sweep ≠ 0 ∧ sweepTarget (sweepStarted d) > 2047) fun h => ht h.2]
      rfl
  · rw [if_neg hs]
    rw [decide_eq_false (p := sweepShift d.sweep ≠ 0 ∧ sweepTarget (sweepStarted d) > 2047) fun h => hs h.1]
    rfl

/-- The trigger of channel 1 in the terms of its registers, `f` being the frequency they hold (R565, R569). -/
theorem triggerCh1_effect (d : Sound) {f : Nat} (hf : freqValue d.ch1.nrx4 d.ch1.nrx3 = f) :
    (triggerCh1 d).ch1.core = ⟨decide (¬(d.sweep.nr10.toNat % 8 ≠ 0
        ∧ (d.sweep.nr10.getLsbD 3 = false ∧ f + f / 2 ^ (d.sweep.nr10.toNat % 8) > 2047))),
        (2048 - (f : Int)) * 4, if d.ch1.core.length = 0 then 64 else d.ch1.core.length⟩
      ∧ (triggerCh1 d).ch1.env = ⟨d.ch1.nrx2.toNat / 16, d.ch1.nrx2.toNat % 8⟩
      ∧ (triggerCh1 d).ch1.dutyPos = d.ch1.dutyPos
      ∧ (triggerCh1 d).sweep = { d.sweep with
          shadow := f
          timer := if d.sweep.nr10.toNat / 16 % 8 = 0 then 8 else d.sweep.nr10.toNat / 16 % 8
          en := decide (d.sweep.nr10.toNat / 16 % 8 ≠ 0 ∨ d.sweep.nr10.toNat % 8 ≠ 0) } := by
  subst hf
  have overflow := sweepTarget_overflows (w := sweepStarted d) (freqValue_le ..)
  have timer : sweepReload d.sweep = if sweepPeriod d.sweep = 0 then 8 else sweepPeriod d.sweep := ite_not ..
  rw [triggerCh1_eq, ← sweepShift_eq, ← sweepPeriod_eq]
  refine ⟨?_, triggerEnv_eq _, rfl, ?_⟩
  · rw [decide_not, decide_eq_decide.mpr (and_congr_right' overflow)]
    rfl
  · rw [← timer]
    rfl

/-! ### Where a write of NRx4 triggers -/

theorem writeNr14_trigger {d : Sound} {v : Byte} (hv : v.getLsbD 7 = true) (hd : 8 ≤ d.ch1.nrx2.toNat) :
    writeNr14 d v = triggerCh1 { d with ch1 := { d.ch1 with nrx4 := storedNrx4 v } } :=
  if_pos ⟨hv, (envDacOn_iff _).mpr hd⟩

theorem writeNr14_store {d : Sound} {v : Byte} (h : v.getLsbD 7 = false ∨ d.ch1.nrx2.toNat < 8) :
    writeNr14 d v = { d with ch1 := { d.ch1 with nrx4 := storedNrx4 v } } :=
  if_neg fun ⟨hv, hd⟩ => h.elim (fun h => by cases h.symm.trans hv) (Nat.not_lt.mpr ((envDacOn_iff _).mp hd))

theorem writeSquare4_trigger {q : Square} {v : Byte} (hv : v.getLsbD 7 = true) (hd : 8 ≤ q.nrx2.toNat) :
    writeSquare4 q v = triggerSquare { q with nrx4 := storedNrx4 v } :=
  if_pos ⟨hv, (envDacOn_iff _).mpr hd⟩

theorem writeSquare4_store {q : Square} {v : Byte} (h : v.getLsbD 7 = false ∨ q.nrx2.toNat < 8) :
    writeSquare4 q v = { q with nrx4 := storedNrx4 v } :=
  if_neg fun ⟨hv, hd⟩ => h.elim (fun h => by cases h.symm.trans hv) (Nat.not_lt.mpr ((envDacOn_iff _).mp hd))

theorem writeNr34_trigger {w : Wave} {v : Byte} (hv : v.getLsbD 7 = true) (hd : w.nr30.getLsbD 7 = true) :
    writeNr34 w v = triggerWave { w with nr34 := storedNrx4 v } :=
  if_pos ⟨hv, hd⟩

theorem writeNr34_store {w : Wave} {v : Byte} (h : v.getLsbD 7 = false ∨ w.nr30.getLsbD 7 = false) :
    writeNr34 w v = { w with nr34 := storedNrx4 v } :=
  if_neg fun ⟨hv, hd⟩ => h.elim (fun h => by cases h.symm.trans hv) (fun h => by cases h.symm.trans hd)

theorem writeNr44_trigger {n : Noise} {v : Byte} (hv : v.getLsbD 7 = true) (hd : 8 ≤ n.nr42.toNat) :
    writeNr44 n v = triggerNoise { n with nr44 := v &&& 0x40#8 } :=
  if_pos ⟨hv, (envDacOn_iff _).mpr hd⟩

theorem writeNr44_store {n : Noise} {v : Byte} (h : v.getLsbD 7 = false ∨ n.nr42.toNat < 8) :
    writeNr44 n v = { n with nr44 := v &&& 0x40#8 } :=
  if_neg fun ⟨hv, hd⟩ => h.elim (fun h => by cases h.symm.trans hv) (Nat.not_lt.mpr ((envDacOn_iff _).mp hd))

/-- A square channel triggered with the period of the bits just written (R565, R571). -/
theorem triggerSquare_stored (q : Square) (v : Byte) : triggerSquare { q with nrx4 := storedNrx4 v } = { q with
    nrx4 := storedNrx4 v
    core := ⟨true, (2048 - ((v.toNat % 8 * 256 + q.nrx3.toNat : Nat) : Int)) * 4,
      if q.core.length = 0 then 64 else q.core.length⟩
    env := ⟨q.nrx2.toNat / 16, q.nrx2.toNat % 8⟩ } := by
  rw [← freqValue_stored, ← triggerEnv_eq]
  rfl

theorem triggerWave_stored (w : Wave) (v : Byte) : triggerWave { w with nr34 := storedNrx4 v } = { w with
    nr34 := storedNrx4 v
    core := ⟨true, (2048 - ((v.toNat % 8 * 256 + w.nr33.toNat : Nat) : Int)) * 2,
      if w.core.length = 0 then 256 else w.core.length⟩
    wavePos := 0 } := by
  rw [← freqValue_stored]
  rfl

/-- Settles O56: each channel's NRx4 write is its trigger where bit 7 and the DAC ask for it, and only stores elsewhere. -/
theorem soundTrigger : Obligations.SoundTrigger := by
  intro s v hon
  dsimp only
  rw [memWrite_soundReg hon (a := 0xFF14#16) (r := .nr14) rfl, memWrite_soundReg hon (a := 0xFF19#16) (r := .nr24) rfl,
    memWrite_soundReg hon (a := 0xFF1E#16) (r := .nr34) rfl, memWrite_soundReg hon (a := 0xFF23#16) (r := .nr44) rfl]
  generalize s.sound = d
  simp only [soundRegWrite]
  refine ⟨fun hv hd => ?ch1, fun hv hd => ?ch2, fun hv hd => ?ch3, fun hv hd => ?ch4, fun h => ?store1, fun h => ?store2,
    fun h => ?store3, fun h => ?store4, ?stored⟩
  case ch1 =>
    rw [writeNr14_trigger hv hd]
    exact triggerCh1_effect _ (freqValue_stored v d.ch1.nrx3)
  case ch2 =>
    rw [writeSquare4_trigger hv hd, triggerSquare_stored]
    exact ⟨rfl, rfl, rfl⟩
  case ch3 =>
    rw [writeNr34_trigger hv hd, triggerWave_stored]
    exact ⟨rfl, rfl⟩
  case ch4 =>
    rw [writeNr44_trigger hv hd, ← triggerEnv_eq]
    exact ⟨rfl, rfl, rfl⟩
  case store1 => rw [writeNr14_store h]
  case store2 => rw [writeSquare4_store h]
  case store3 => rw [writeNr34_store h]
  case store4 => rw [writeNr44_store h]
  case stored =>
    rw [writeNr14_nrx4]
    exact ⟨(by decide : ∀ v : Byte, (v &&& 0x47#8).toNat % 8 = v.toNat % 8) v,
      (by decide : ∀ v : Byte, (v &&& 0x47#8).getLsbD 6 = v.getLsbD 6) v⟩

end Sys2Proof.Machine
end

section
/-! SUPPORT. RAM, what the display owns of it (O42), and the stack in it (O11). -/

namespace Sys2Proof.Machine

open Sys2Proof.Claims

/-! ## What the display owns -/

/-- The bus blocks exactly the addresses that R112 gives the display. -/
theorem blockedAt_iff (s : State) (a : Word) : blockedAt s a = true ↔ displayOwns s a := by
  simp only [blockedAt, displayOwns, vramBlocked, oamBlocked, lcdOn, lcdMode, Bool.or_eq_true, Bool.and_eq_true,
    decide_eq_true_eq, beq_iff_eq]
  tauto

/-- A blocked address is in VRAM or OAM, and its area is blocked (R112). -/
theorem blockedAt_cases {s : State} {a : Word} (h : blockedAt s a = true) :
    (0x8000 ≤ a.toNat ∧ a.toNat ≤ 0x9FFF ∧ vramBlocked s = true)
      ∨ (0xFE00 ≤ a.toNat ∧ a.toNat ≤ 0xFE9F ∧ oamBlocked s = true) := by
  simpa only [blockedAt, Bool.or_eq_true, Bool.and_eq_true, decide_eq_true_eq, and_assoc] using h

/-- A bus read of a blocked address is 0xFF (R110, R112). -/
theorem memRead_blocked {s : State} {a : Word} (h : blockedAt s a = true) : memRead s a = 0xFF#8 := by
  have ram : ramCell a = some a.toNat := by
    have := blockedAt_cases h
    simp only [ramCell]
    grind
  rw [memRead_ram ram, if_pos h]

/-- A bus write to a blocked address changes nothing (R111, R112). -/
theorem memWrite_blocked {s : State} {a : Word} (h : blockedAt s a = true) (v : Byte) : memWrite s a v = s := by
  obtain ⟨h1, h2, hb⟩ | ⟨h1, h2, hb⟩ := blockedAt_cases h
  · simp only [memWrite]
    rw [if_neg (by omega), if_pos h2, if_pos hb]
  · simp only [memWrite]
    iterate 5 rw [if_neg (by omega)]
    rw [if_pos h2, if_pos hb]

/-- The DMA's own reads of VRAM and OAM are not gated (R110, R112). -/
theorem rawRead_vram_oam {a : Word}
    (h : (0x8000 ≤ a.toNat ∧ a.toNat ≤ 0x9FFF) ∨ (0xFE00 ≤ a.toNat ∧ a.toNat ≤ 0xFE9F)) (s : State) :
    rawRead s a = Memory.read s.mem a.toNat := by
  simp only [rawRead, readAt, Bool.false_eq_true, false_and, if_false]
  grind

/-- Settles O42: the bus blocks what the display owns, and elsewhere the store law of RAM holds. -/
theorem ramAndDisplayGating : Obligations.RamAndDisplayGating := by
  intro s a v
  refine ⟨fun ho => ?_, fun ho hm k hk => ?_, fun h => rawRead_vram_oam h s⟩
  · have hb := (blockedAt_iff s a).mpr ho
    exact ⟨memRead_blocked hb, memWrite_blocked hb v⟩
  · have hb : blockedAt s a = false := Bool.eq_false_iff.mpr fun h => ho ((blockedAt_iff s a).mp h)
    exact ⟨by rw [memRead_ram hk, hb, if_neg Bool.false_ne_true], memRead_memWrite_ram hm hk hb v⟩

/-! ## The stack -/

/-- RAM is not P1: a bus read of it changes nothing (R103). -/
theorem afterRead_ram {a : Word} {k : Nat} (h : ramCell a = some k) (s : State) : afterRead s a = s := by
  refine afterRead_of_ne ?_ s
  rintro rfl
  cases h

/-- A store into RAM that the display does not own keeps the canonical form. -/
theorem memWrite_ram_wf {s : State} (hm : Memory.wf s.mem) {a : Word} {k : Nat} (hk : ramCell a = some k)
    (hb : blockedAt s a = false) (v : Byte) : Memory.wf (memWrite s a v).mem := by
  rw [memWrite_ram hk hb]
  exact Memory.write_wf hm k v

/-- A store into RAM leaves the display's ownership as it is. -/
theorem blockedAt_memWrite_ram {s : State} {a : Word} {k : Nat} (hk : ramCell a = some k) (hb : blockedAt s a = false)
    (v : Byte) (b : Word) : blockedAt (memWrite s a v) b = blockedAt s b := by
  rw [memWrite_ram hk hb, blockedAt_withMem]

/-- What a bus read gives after a push into RAM: the low byte in the lower cell, the high byte in the upper (R220). -/
theorem memRead_push16_ram {s : State} (hm : Memory.wf s.mem) {j k : Nat} (hk : ramCell (s.regs.sp - 1#16) = some k)
    (kb : blockedAt s (s.regs.sp - 1#16) = false) (hj : ramCell (s.regs.sp - 2#16) = some j)
    (jb : blockedAt s (s.regs.sp - 2#16) = false) (v : Word) (b : Word) :
    memRead (push16 s v) b
      = if ramCell b = some j then loByte v else if ramCell b = some k then hiByte v else memRead s b := by
  have high := memRead_memWrite_ram (s := setSP s (s.regs.sp - 1#16)) hm hk kb (hiByte v) b
  have wf := memWrite_ram_wf (s := setSP s (s.regs.sp - 1#16)) hm hk kb (hiByte v)
  have free := (blockedAt_memWrite_ram (s := setSP s (s.regs.sp - 1#16)) hk kb (hiByte v) (s.regs.sp - 2#16)).trans jb
  rw [push16_eq, memRead_memWrite_ram (s := setSP (memWrite _ _ _) (s.regs.sp - 2#16)) wf hj free, memRead_setSP, high,
    memRead_setSP]

@[simp] theorem push16_sp (s : State) (v : Word) : (push16 s v).regs.sp = s.regs.sp - 2#16 := by
  rw [push16_eq, memWrite_regs]
  rfl

/-- Settles O11: the two cells of a push differ, and a pop reads them back in order. -/
theorem popReturnsPushed : Obligations.PopReturnsPushed := by
  intro s v hm hst
  obtain ⟨k, hk, kb⟩ := storable_iff (hst (s.regs.sp - 1#16) (by simp [pushAddrs]))
  obtain ⟨j, hj, jb⟩ := storable_iff (hst (s.regs.sp - 2#16) (by simp [pushAddrs]))
  have reads := memRead_push16_ram hm hk kb hj jb v
  have lo : memRead (push16 s v) (s.regs.sp - 2#16) = loByte v := by rw [reads, if_pos hj]
  have hi : memRead (push16 s v) (s.regs.sp - 1#16) = hiByte v := by
    have hne : ramCell (s.regs.sp - 1#16) ≠ some j := fun h =>
      ramCell_adjacent s.regs.sp hk hj (Option.some.inj (h.symm.trans hk))
    rw [reads, if_neg hne, if_pos hk]
  have up : s.regs.sp - 2#16 + 1#16 = s.regs.sp - 1#16 := by bv_omega
  have back : s.regs.sp - 2#16 + 2#16 = s.regs.sp := by bv_omega
  refine ⟨lo, hi, push16_sp s v, ?_, ?_⟩
  · rw [pop16_eq, push16_sp, afterRead_ram hj, up, hi, lo, mkWord_halves]
  · rw [pop16_eq, push16_sp, back]
    rfl

end Sys2Proof.Machine
end

section
/-! SUPPORT. The cartridge behind the bus: its two ROM windows, its control registers and its RAM window (R130 to R134,
R140, R145, R146), then the bank controllers one by one (O46, O47, O48). -/

namespace Sys2Proof.Machine

open Sys2Proof.Claims

/-! ## The windows of the bus -/

/-- A bus write below 0x8000 is a control write (R111, R130). -/
theorem memWrite_rom {a : Word} (h : a.toNat ≤ 0x7FFF) (s : State) (v : Byte) :
    memWrite s a v = cartControlWrite s a.toNat v := by
  simp only [memWrite]
  rw [if_pos h]

/-- A bus read below 0x8000 that the overlay does not cover reads the cartridge (R110, R120). -/
theorem memRead_rom {s : State} {a : Word} (bare : s.bootOverlay = false ∨ 0x100 ≤ a.toNat) (h : a.toNat ≤ 0x7FFF) :
    memRead s a = cartRomRead s.cart s.mbc a.toNat := by
  have uncovered : ¬(s.bootOverlay = true ∧ a.toNat ≤ 0x00FF) := by
    rintro ⟨ho, ha⟩
    rcases bare with hb | hb
    · cases ho.symm.trans hb
    · omega
  simp only [memRead, readAt]
  rw [if_neg uncovered, if_pos h]

/-- The lower ROM window shows the low bank (R131). -/
theorem memRead_lowRom {s : State} {a : Word} (bare : s.bootOverlay = false ∨ 0x100 ≤ a.toNat) (h : a.toNat ≤ 0x3FFF) :
    memRead s a = imageByte s.cart (lowRomBank s.cart s.mbc) a.toNat := by
  rw [memRead_rom bare (by omega), cartRomRead, romBankAt, if_pos (by omega), Nat.mod_eq_of_lt (by omega)]
  rfl

/-- The upper ROM window shows the high bank (R131). -/
theorem memRead_highRom (s : State) {a : Word} (h1 : 0x4000 ≤ a.toNat) (h2 : a.toNat ≤ 0x7FFF) :
    memRead s a = imageByte s.cart (highRomBank s.cart s.mbc) (a.toNat - 0x4000) := by
  have off : a.toNat % 0x4000 = a.toNat - 0x4000 := by omega
  rw [memRead_rom (.inr (by omega)) h2, cartRomRead, romBankAt, if_neg (by omega), off]
  rfl

/-- A bus read of the external RAM window (R110). -/
theorem memRead_eram (s : State) {a : Word} (h1 : 0xA000 ≤ a.toNat) (h2 : a.toNat ≤ 0xBFFF) :
    memRead s a = cartRamRead s (a.toNat - 0xA000) := by
  simp only [memRead, readAt]
  iterate 3 rw [if_neg (by omega)]
  rw [if_pos h2]

/-- A bus write of the external RAM window (R111). -/
theorem memWrite_eram (s : State) {a : Word} (h1 : 0xA000 ≤ a.toNat) (h2 : a.toNat ≤ 0xBFFF) (v : Byte) :
    memWrite s a v = cartRamWrite s (a.toNat - 0xA000) v := by
  simp only [memWrite]
  iterate 2 rw [if_neg (by omega)]
  rw [if_pos h2]

/-! ## The external RAM window -/

/-- The window on a RAM cell of eight bits: read and written as it is (R134, R146). -/
theorem cartRam_cell {s : State} {off i : Nat} (hi : eramIndex s.cart s.mbc off = some i) (hb : s.cart.mbcType ≠ .mbc2)
    (v : Byte) : cartRamRead s off = Memory.read s.eram i
      ∧ cartRamWrite s off v = { s with eram := Memory.write s.eram i v } := by
  simp only [cartRamRead, cartRamWrite, hi, if_neg hb, and_self]

/-- The window on a cell of MBC2: four bits, read with the high nibble 1 (R140). -/
theorem cartRam_nibble {s : State} {off i : Nat} (hi : eramIndex s.cart s.mbc off = some i) (hb : s.cart.mbcType = .mbc2)
    (v : Byte) : cartRamRead s off = 0xF0#8 ||| Memory.read s.eram i
      ∧ cartRamWrite s off v = { s with eram := Memory.write s.eram i (v &&& 0x0F#8) } := by
  simp only [cartRamRead, cartRamWrite, hi, if_pos hb, and_self]

/-- The window on a clock register: the latched one is read, the updated live one written (R146). -/
theorem cartRam_clock {s : State} {off : Nat} {r : RtcReg} (hi : eramIndex s.cart s.mbc off = none)
    (hr : rtcSelected s.cart s.mbc = some r) (v : Byte) : cartRamRead s off = rtcGet s.mbc.rtcLatched r
      ∧ cartRamWrite s off v = withMbc (rtcUpdate s)
          { (rtcUpdate s).mbc with rtcLive := rtcSet (rtcUpdate s).mbc.rtcLive v r } := by
  simp only [cartRamRead, cartRamWrite, hi, hr, withMbc, and_self]

/-- The window on nothing reads 0xFF and drops writes (R131, R134, R140, R146). -/
theorem cartRam_closed {s : State} {off : Nat} (hi : eramIndex s.cart s.mbc off = none)
    (hr : rtcSelected s.cart s.mbc = none) (v : Byte) : cartRamRead s off = 0xFF#8 ∧ cartRamWrite s off v = s := by
  simp only [cartRamRead, cartRamWrite, hi, hr, and_self]

/-- Only MBC3 has clock registers (R146). -/
theorem rtcSelected_none {c : Cart} (h : c.mbcType ≠ .mbc3) (m : Mbc) : rtcSelected c m = none :=
  if_neg fun hc => h hc.1

/-! ## MBC1 and no controller -/

/-- MBC1's external RAM when it is enabled and present (R134). -/
theorem eramIndex_mbc1 {c : Cart} (h : c.mbcType = .mbc1) (m : Mbc) (off : Nat) :
    eramIndex c m off = if m.ramEnable = true ∧ c.ramBanks ≠ 0 then
      some (((if m.mode = 1#1 then m.bank2.toNat else 0) % c.ramBanks) * 0x2000 + off) else none := by
  rw [eramIndex, h]

/-- MBC1's control writes (R132). -/
theorem memWrite_mbc1 {s : State} (h : s.cart.mbcType = .mbc1) {a : Word} (ha : a.toNat ≤ 0x7FFF) (v : Byte) :
    memWrite s a v = withMbc s (mbc1Control s.mbc a.toNat v) := by
  rw [memWrite_rom ha, cartControlWrite, h]
  rfl

/-- Without a controller the two windows show banks 0 and 1 in order (R131). -/
theorem memRead_plainRom {s : State} (h : s.cart.mbcType = .none) {a : Word}
    (bare : s.bootOverlay = false ∨ 0x100 ≤ a.toNat) (ha : a.toNat ≤ 0x7FFF) :
    memRead s a = imageByte s.cart (a.toNat / 0x4000) (a.toNat % 0x4000) := by
  have bank : romBankAt s.cart s.mbc a.toNat = a.toNat / 0x4000 := by
    simp only [romBankAt, lowRomBank, highRomBank, h]
    split <;> omega
  rw [memRead_rom bare ha, cartRomRead, bank]
  rfl

/-- Settles O46, one window and one control range at a time. -/
theorem mbc1AndPlainCartridge : Obligations.Mbc1AndPlainCartridge := by
  intro s a v
  refine ⟨fun h => ⟨fun h1 => ?ramEnable, fun h1 h2 => ?bank1, fun h1 h2 => ?bank2, fun h1 h2 => ?mode, fun hb h1 => ?low,
    fun h1 h2 => ?high, fun h1 h2 => ⟨fun he => ?ram, fun he => ?closed⟩⟩, fun h => ⟨fun h1 => ?ignored, ?mapped, ?inert⟩⟩
  case ramEnable =>
    rw [memWrite_mbc1 h (by omega), mbc1Control, if_pos (by omega), enablesRam, beq_eq_decide]
  case bank1 =>
    rw [memWrite_mbc1 h (by omega), mbc1Control, if_neg (by omega), if_pos (by omega)]
    rfl
  case bank2 =>
    rw [memWrite_mbc1 h (by omega), mbc1Control, if_neg (by omega), if_neg (by omega), if_pos (by omega)]
  case mode =>
    rw [memWrite_mbc1 h (by omega), mbc1Control, if_neg (by omega), if_neg (by omega), if_neg (by omega)]
  case low => rw [memRead_lowRom hb h1, lowRomBank, h]
  case high => rw [memRead_highRom s h1 h2, highRomBank, h]
  case ram =>
    rw [memRead_eram s h1 h2, memWrite_eram s h1 h2]
    exact cartRam_cell (by rw [eramIndex_mbc1 h, if_pos he]) (by simp [h]) v
  case closed =>
    have noRam : ¬(s.mbc.ramEnable = true ∧ s.cart.ramBanks ≠ 0) := by
      rintro ⟨h1, h2⟩
      exact he.elim (fun he => by cases h1.symm.trans he) h2
    rw [memRead_eram s h1 h2, memWrite_eram s h1 h2]
    exact cartRam_closed (by rw [eramIndex_mbc1 h, if_neg noRam]) (rtcSelected_none (by simp [h]) _) v
  case ignored => rw [memWrite_rom h1, cartControlWrite, h]
  case mapped => exact memRead_plainRom h
  case inert =>
    intro h1 h2
    rw [memRead_eram s h1 h2, memWrite_eram s h1 h2]
    exact cartRam_closed (by rw [eramIndex, h]) (rtcSelected_none (by simp [h]) _) v

/-! ## MBC2 -/

/-- MBC2's 512 cells when they are enabled (R140). -/
theorem eramIndex_mbc2 {c : Cart} (h : c.mbcType = .mbc2) (m : Mbc) (off : Nat) :
    eramIndex c m off = if m.ramEnable = true then some (off % 512) else none := by
  rw [eramIndex, h]

/-- MBC2's control writes (R140). -/
theorem memWrite_mbc2 {s : State} (h : s.cart.mbcType = .mbc2) {a : Word} (ha : a.toNat ≤ 0x7FFF) (v : Byte) :
    memWrite s a v = withMbc s (mbc2Control s.mbc a.toNat v) := by
  rw [memWrite_rom ha, cartControlWrite, h]
  rfl

/-- The bank number zero-extended: 0 becomes 1 before or after it (R140). -/
theorem zeroExtend_nonZero (b : BitVec 4) :
    (if b = 0#4 then 1#7 else b.zeroExtend 7) = (nonZero b).zeroExtend 7 := by
  revert b; decide

/-- Settles O47: the control write that address bit 8 selects, the two ROM windows, the window on the cells. -/
theorem mbc2Cartridge : Obligations.Mbc2Cartridge := by
  intro s a v n m bare cell h
  refine ⟨fun h1 h8 => ?ramEnable, fun h1 h8 => ?romBank, fun h1 h2 => ?ignored, fun hb h1 => ?low, fun h1 h2 => ?high,
    fun h1 h2 => ⟨fun he => ?ram, fun he => ?closed⟩⟩
  case ramEnable =>
    have bit : ¬a.toNat.testBit 8 = true := Bool.eq_false_iff.mp h8
    rw [memWrite_mbc2 h (by omega), mbc2Control, if_pos (by omega), if_neg bit, enablesRam, beq_eq_decide]
  case romBank =>
    have bit : a.toNat.testBit 8 = true := h8
    rw [memWrite_mbc2 h (by omega), mbc2Control, if_pos (by omega), if_pos bit, zeroExtend_nonZero]
  case ignored =>
    rw [memWrite_mbc2 h h2, mbc2Control, if_neg (by omega)]
    rfl
  case low => rw [memRead_lowRom hb h1, lowRomBank, h]
  case high => rw [memRead_highRom s h1 h2, highRomBank, h]
  case ram =>
    rw [memRead_eram s h1 h2, memWrite_eram s h1 h2]
    exact cartRam_nibble (by rw [eramIndex_mbc2 h, if_pos he]) h v
  case closed =>
    rw [memRead_eram s h1 h2, memWrite_eram s h1 h2]
    exact cartRam_closed (by rw [eramIndex_mbc2 h, if_neg (Bool.eq_false_iff.mp he)]) (rtcSelected_none (by simp [h]) _) v

/-! ## MBC3 -/

/-- MBC3's control writes (R145). -/
theorem memWrite_mbc3 {s : State} (h : s.cart.mbcType = .mbc3) {a : Word} (ha : a.toNat ≤ 0x7FFF) (v : Byte) :
    memWrite s a v = mbc3Control s a.toNat v := by
  rw [memWrite_rom ha, cartControlWrite, h]

/-- MBC3's RAM: bank `ram_sel` up to 3, when it is enabled and present (R146). -/
theorem eramIndex_mbc3 {c : Cart} (h : c.mbcType = .mbc3) (m : Mbc) (off : Nat) :
    eramIndex c m off = if m.ramEnable = true ∧ m.ramSel.toNat ≤ 3 ∧ c.ramBanks ≠ 0 then
      some ((m.ramSel.toNat % c.ramBanks) * 0x2000 + off) else none := by
  rw [eramIndex, h]

/-- The value of `ram_sel` that selects a clock register (R146). -/
def rtcSelector : RtcReg → Byte
  | .s => 0x08#8
  | .m => 0x09#8
  | .h => 0x0A#8
  | .dl => 0x0B#8
  | .dh => 0x0C#8

theorem rtcSelected_of_selector {c : Cart} (h : c.mbcType = .mbc3) {m : Mbc} (he : m.ramEnable = true) {r : RtcReg}
    (hr : m.ramSel = rtcSelector r) : rtcSelected c m = some r := by
  cases r <;> simp [rtcSelected, h, he, hr, rtcSelector]

/-- No clock register is selected while the window is disabled or `ram_sel` is outside 0x08 to 0x0C (R146). -/
theorem rtcSelected_closed (c : Cart) {m : Mbc}
    (h : m.ramEnable = false ∨ m.ramSel.toNat < 0x08 ∨ 0x0C < m.ramSel.toNat) : rtcSelected c m = none := by
  unfold rtcSelected
  split
  · rename_i he
    have hs := h.resolve_left (by simp [he.2])
    split
    case h_6 => rfl
    all_goals omega
  · rfl

/-- The window of MBC3 on a clock register (R146). -/
theorem mbc3_clock {s : State} (h : s.cart.mbcType = .mbc3) (he : s.mbc.ramEnable = true) {a : Word}
    (h1 : 0xA000 ≤ a.toNat) (h2 : a.toNat ≤ 0xBFFF) {r : RtcReg} (hr : s.mbc.ramSel = rtcSelector r) (v : Byte) :
    memRead s a = rtcGet s.mbc.rtcLatched r
      ∧ memWrite s a v = withMbc (rtcUpdate s)
          { (rtcUpdate s).mbc with rtcLive := rtcSet (rtcUpdate s).mbc.rtcLive v r } := by
  have noRam : ¬s.mbc.ramSel.toNat ≤ 3 := by rw [hr]; cases r <;> decide
  rw [memRead_eram s h1 h2, memWrite_eram s h1 h2]
  exact cartRam_clock (by rw [eramIndex_mbc3 h, if_neg fun hc => noRam hc.2.1]) (rtcSelected_of_selector h he hr) v

/-- The window of MBC3 on nothing (R146). -/
theorem mbc3_closed {s : State} (h : s.cart.mbcType = .mbc3)
    (hc : s.mbc.ramEnable = false ∨ (s.mbc.ramSel.toNat ≤ 3 ∧ s.cart.ramBanks = 0)
      ∨ (4 ≤ s.mbc.ramSel.toNat ∧ s.mbc.ramSel.toNat ≤ 7) ∨ 0x0D ≤ s.mbc.ramSel.toNat) {a : Word}
    (h1 : 0xA000 ≤ a.toNat) (h2 : a.toNat ≤ 0xBFFF) (v : Byte) : memRead s a = 0xFF#8 ∧ memWrite s a v = s := by
  have noRam : ¬(s.mbc.ramEnable = true ∧ s.mbc.ramSel.toNat ≤ 3 ∧ s.cart.ramBanks ≠ 0) := by
    rintro ⟨he, hs, hb⟩
    rcases hc with hc | ⟨-, hc⟩ | hc
    · cases he.symm.trans hc
    · exact hb hc
    · omega
  have noClock : s.mbc.ramEnable = false ∨ s.mbc.ramSel.toNat < 0x08 ∨ 0x0C < s.mbc.ramSel.toNat :=
    hc.imp_right fun hc => by omega
  rw [memRead_eram s h1 h2, memWrite_eram s h1 h2]
  exact cartRam_closed (by rw [eramIndex_mbc3 h, if_neg noRam]) (rtcSelected_closed _ noClock) v

/-- Settles O48: the control writes with the latch, the two ROM windows, and the window by what `ram_sel` selects. -/
theorem mbc3Cartridge : Obligations.Mbc3Cartridge := by
  intro s a v n m bare cell u clock h
  refine ⟨fun h1 => ?ramEnable, fun h1 h2 => ?romBank, fun h1 h2 => ?ramSel, fun h1 h2 => ?latch, fun hb h1 => ?low,
    fun h1 h2 => ?high, fun h1 h2 => ⟨fun he => ⟨fun hs hb => ?ram, ?clock⟩, fun hc => ?closed⟩⟩
  case ramEnable =>
    rw [memWrite_mbc3 h (by omega), mbc3Control, if_pos (by omega), enablesRam, beq_eq_decide]
    rfl
  case romBank =>
    rw [memWrite_mbc3 h (by omega), mbc3Control, if_neg (by omega), if_pos (by omega)]
    rfl
  case ramSel =>
    rw [memWrite_mbc3 h (by omega), mbc3Control, if_neg (by omega), if_neg (by omega), if_pos (by omega)]
    rfl
  case latch =>
    rw [memWrite_mbc3 h (by omega), mbc3Control, if_neg (by omega), if_neg (by omega), if_neg (by omega)]
    rfl
  case low => rw [memRead_lowRom hb h1, lowRomBank, h]
  case high => rw [memRead_highRom s h1 h2, highRomBank, h]
  case ram =>
    rw [memRead_eram s h1 h2, memWrite_eram s h1 h2]
    exact cartRam_cell (by rw [eramIndex_mbc3 h, if_pos ⟨he, hs, hb⟩]) (by simp [h]) v
  case clock =>
    have reg := fun (r : RtcReg) (hr : s.mbc.ramSel = rtcSelector r) => mbc3_clock h he h1 h2 hr v
    exact ⟨reg .s, reg .m, reg .h, reg .dl, reg .dh⟩
  case closed => exact mbc3_closed h hc h1 h2 v

end Sys2Proof.Machine
end

section
/-! SUPPORT. The MBC3 clock as a counter of seconds (O49): one tick in its four cases, then `n` ticks by induction. -/

namespace Sys2Proof.Machine

open Sys2Proof.Claims

/-! ## One tick, case by case (R148) -/

theorem rtcSecondTick_second {t : Rtc} (hs : t.s ≠ 59#8) : rtcSecondTick t = { t with s := (t.s + 1#8) &&& 0x3F#8 } := by
  rw [rtcSecondTick, if_neg hs]

theorem rtcSecondTick_minute {t : Rtc} (hs : t.s = 59#8) (hm : t.m ≠ 59#8) :
    rtcSecondTick t = { t with s := 0#8, m := (t.m + 1#8) &&& 0x3F#8 } := by
  rw [rtcSecondTick, if_pos hs, rtcMinuteTick, if_neg hm]

theorem rtcSecondTick_hour {t : Rtc} (hs : t.s = 59#8) (hm : t.m = 59#8) (hh : t.h ≠ 23#8) :
    rtcSecondTick t = { t with s := 0#8, m := 0#8, h := (t.h + 1#8) &&& 0x1F#8 } := by
  rw [rtcSecondTick, if_pos hs, rtcMinuteTick, if_pos hm, rtcHourTick, if_neg hh]

theorem rtcSecondTick_day {t : Rtc} (hs : t.s = 59#8) (hm : t.m = 59#8) (hh : t.h = 23#8) :
    rtcSecondTick t = rtcDayTick { t with s := 0#8, m := 0#8, h := 0#8 } := by
  rw [rtcSecondTick, if_pos hs, rtcMinuteTick, if_pos hm, rtcHourTick, if_pos hh]

/-! ## The registers as numbers -/

/-- The day counter of R147, 0 to 511. -/
def clockDays (t : Rtc) : Nat := t.dh.toNat % 2 * 256 + t.dl.toNat

theorem clockDays_lt (t : Rtc) : clockDays t < 512 := by
  have := t.dl.isLt
  unfold clockDays
  omega

theorem clockSeconds_eq (t : Rtc) :
    clockSeconds t = clockDays t * 86400 + t.h.toNat * 3600 + t.m.toNat * 60 + t.s.toNat := by
  unfold clockSeconds clockDays
  omega

theorem clockSeconds_lt {t : Rtc} (h : clockValid t) : clockSeconds t < 512 * 86400 := by
  obtain ⟨hs, hm, hh⟩ := h
  have := clockDays_lt t
  rw [clockSeconds_eq]
  omega

/-- A six-bit register that has not reached 59 counts up. -/
theorem sixty_succ : ∀ v : Byte, v.toNat < 60 → v ≠ 59#8 → v.toNat < 59 ∧ ((v + 1#8) &&& 0x3F#8).toNat = v.toNat + 1 := by
  decide

/-- The five-bit hour register that has not reached 23 counts up. -/
theorem hour_succ : ∀ v : Byte, v.toNat < 24 → v ≠ 23#8 → v.toNat < 23 ∧ ((v + 1#8) &&& 0x1F#8).toNat = v.toNat + 1 := by
  decide

theorem dl_succ : ∀ v : Byte, v ≠ 0xFF#8 → (v + 1#8).toNat = v.toNat + 1 ∧ v.toNat < 255 := by
  decide

/-- DH when the days pass 255 and 511: its day bit and its carry (R148); the other bits stay. -/
theorem dh_succ : ∀ v : Byte,
    (v.getLsbD 0 = true → v.toNat % 2 = 1 ∧ ((v &&& 0xFE#8) ||| 0x80#8).toNat % 2 = 0
      ∧ ((v &&& 0xFE#8) ||| 0x80#8).getLsbD 7 = true ∧ ((v &&& 0xFE#8) ||| 0x80#8) &&& 0x7E#8 = v &&& 0x7E#8)
    ∧ (v.getLsbD 0 = false → v.toNat % 2 = 0 ∧ (v ||| 0x01#8).toNat % 2 = 1
      ∧ (v ||| 0x01#8).getLsbD 7 = v.getLsbD 7 ∧ (v ||| 0x01#8) &&& 0x7E#8 = v &&& 0x7E#8) := by
  decide

/-! ## Counting -/

/-- `n` more units of a count modulo `size`: the count, the sticky carry DH[7], and DH's other bits but the day bit. -/
structure Advanced (count : Rtc → Nat) (size n : Nat) (t u : Rtc) : Prop where
  counts : count u = (count t + n) % size
  carry : u.dh.getLsbD 7 = (t.dh.getLsbD 7 || decide (count t + n ≥ size))
  rest : u.dh &&& 0x7E#8 = t.dh &&& 0x7E#8

theorem Advanced.zero {count : Rtc → Nat} {size : Nat} {t : Rtc} (h : count t < size) : Advanced count size 0 t t where
  counts := (Nat.mod_eq_of_lt h).symm
  carry := by simp [h]
  rest := rfl

/-- A step that does not reach the end of the count, with DH as it was. -/
theorem Advanced.of_succ {count : Rtc → Nat} {size : Nat} {t u : Rtc} (hc : count u = count t + 1)
    (hlt : count t + 1 < size) (hd : u.dh = t.dh) : Advanced count size 1 t u where
  counts := by rw [hc, Nat.mod_eq_of_lt hlt]
  carry := by simp [hd, hlt]
  rest := by rw [hd]

theorem Advanced.trans {count : Rtc → Nat} {size m n : Nat} {t u w : Rtc} (h : Advanced count size m t u)
    (h' : Advanced count size n u w) : Advanced count size (m + n) t w where
  counts := by rw [h'.counts, h.counts, Nat.mod_add_mod, Nat.add_assoc]
  carry := by
    have once : count t + m ≥ size ∨ count u + n ≥ size ↔ count t + (m + n) ≥ size := by
      by_cases hlt : count t + m < size
      · rw [h.counts, Nat.mod_eq_of_lt hlt]
        omega
      · omega
    rw [h'.carry, h.carry, Bool.or_assoc, ← Bool.decide_or, decide_eq_decide.mpr once]
  rest := h'.rest.trans h.rest

/-- A day tick adds one day modulo 512, with the carry (R148). -/
theorem rtcDayTick_advanced (t : Rtc) : Advanced clockDays 512 1 t (rtcDayTick t) := by
  obtain ⟨wraps, carries⟩ := dh_succ t.dh
  have lt := clockDays_lt t
  unfold rtcDayTick
  split
  · rename_i hl
    have full : t.dl.toNat = 255 := by rw [hl]; rfl
    split
    · rename_i hd
      obtain ⟨odd, even, carry, rest⟩ := wraps hd
      have last : clockDays t = 511 := by unfold clockDays; omega
      exact ⟨by rw [last, clockDays, even]; simp, by rw [last, carry]; simp, rest⟩
    · rename_i hd
      obtain ⟨even, odd, carry, rest⟩ := carries (Bool.eq_false_iff.mpr hd)
      have mid : clockDays t = 255 := by unfold clockDays; omega
      exact ⟨by rw [mid, clockDays, odd]; simp, by rw [mid, carry]; simp, rest⟩
  · rename_i hl
    obtain ⟨succ, hlt⟩ := dl_succ t.dl hl
    refine .of_succ ?_ ?_ rfl
    · simp only [clockDays, succ]
      omega
    · unfold clockDays
      omega

/-- A day tick leaves the time of day alone. -/
theorem rtcDayTick_time (t : Rtc) : (rtcDayTick t).s = t.s ∧ (rtcDayTick t).m = t.m ∧ (rtcDayTick t).h = t.h := by
  unfold rtcDayTick
  repeat' split
  all_goals exact ⟨rfl, rfl, rfl⟩

/-- The second tick at midnight: the time of day is 0 again and a day has passed (R148). -/
theorem rtcSecondTick_midnight {t : Rtc} (hs : t.s = 59#8) (hm : t.m = 59#8) (hh : t.h = 23#8) :
    clockValid (rtcSecondTick t) ∧ Advanced clockSeconds (512 * 86400) 1 t (rtcSecondTick t) := by
  rw [rtcSecondTick_day hs hm hh]
  obtain ⟨counts, carry, rest⟩ := rtcDayTick_advanced { t with s := 0#8, m := 0#8, h := 0#8 }
  obtain ⟨zs, zm, zh⟩ := rtcDayTick_time { t with s := 0#8, m := 0#8, h := 0#8 }
  generalize rtcDayTick { t with s := 0#8, m := 0#8, h := 0#8 } = u at *
  have before : clockSeconds t = clockDays t * 86400 + 86399 := by
    simp only [clockSeconds_eq, hs, hm, hh, BitVec.toNat_ofNat]
  have after : clockSeconds u = clockDays u * 86400 := by simp [clockSeconds_eq, zs, zm, zh]
  change clockDays u = (clockDays t + 1) % 512 at counts
  refine ⟨?_, ?_, ?_, rest⟩
  · simp [clockValid, zs, zm, zh]
  · omega
  · rw [carry]
    exact congrArg _ (decide_eq_decide.mpr (show clockDays t + 1 ≥ 512 ↔ _ by omega))

/-- A second tick of a clock that shows a time of day: it still does, one second later modulo 512 days (R148). -/
theorem rtcSecondTick_advanced {t : Rtc} (hv : clockValid t) :
    clockValid (rtcSecondTick t) ∧ Advanced clockSeconds (512 * 86400) 1 t (rtcSecondTick t) := by
  obtain ⟨vs, vm, vh⟩ := hv
  have days := clockDays_lt t
  have seconds := clockSeconds_eq t
  by_cases hs : t.s = 59#8
  · have s59 : t.s.toNat = 59 := by rw [hs]; rfl
    by_cases hm : t.m = 59#8
    · have m59 : t.m.toNat = 59 := by rw [hm]; rfl
      by_cases hh : t.h = 23#8
      · have h23 : t.h.toNat = 23 := by rw [hh]; rfl
        exact rtcSecondTick_midnight hs hm hh
      · obtain ⟨lt, succ⟩ := hour_succ t.h vh hh
        rw [rtcSecondTick_hour hs hm hh]
        refine ⟨⟨by simp, by simp, by simp only [succ]; omega⟩, .of_succ ?_ (by omega) rfl⟩
        rw [clockSeconds_eq, seconds]
        simp only [clockDays, succ, s59, m59, BitVec.toNat_ofNat]
        omega
    · obtain ⟨lt, succ⟩ := sixty_succ t.m vm hm
      rw [rtcSecondTick_minute hs hm]
      refine ⟨⟨by simp, by simp only [succ]; omega, vh⟩, .of_succ ?_ (by omega) rfl⟩
      rw [clockSeconds_eq, seconds]
      simp only [clockDays, succ, s59, BitVec.toNat_ofNat]
      omega
  · obtain ⟨lt, succ⟩ := sixty_succ t.s vs hs
    rw [rtcSecondTick_second hs]
    refine ⟨⟨by simp only [succ]; omega, vm, vh⟩, .of_succ ?_ (by omega) rfl⟩
    rw [clockSeconds_eq, seconds]
    simp only [clockDays, succ]
    omega

/-- `n` second ticks (R148). -/
theorem rtcTicks_advanced {t : Rtc} (hv : clockValid t) (n : Nat) :
    clockValid (rtcTicks n t) ∧ Advanced clockSeconds (512 * 86400) n t (rtcTicks n t) := by
  induction n generalizing t with
  | zero => exact ⟨hv, .zero (clockSeconds_lt hv)⟩
  | succ n ih =>
    obtain ⟨valid, first⟩ := rtcSecondTick_advanced hv
    obtain ⟨valid', others⟩ := ih valid
    have both := first.trans others
    rw [Nat.add_comm 1 n] at both
    exact ⟨valid', both⟩

/-- Settles O49: ticks by induction; the single ticks and the update as the model writes them. -/
theorem clockCountsSeconds : Obligations.ClockCountsSeconds := by
  refine ⟨fun n t hv => ?_, fun t => ⟨rtcSecondTick_second, rtcSecondTick_minute, rtcSecondTick_hour⟩, fun _ => rfl⟩
  obtain ⟨valid, counts, carry, rest⟩ := rtcTicks_advanced hv n
  exact ⟨valid, counts, carry, rest⟩

end Sys2Proof.Machine
end

section
/-! SUPPORT. The memory frame of `exec` (O23): data and control changes leave every read alone, P1 and DIV aside, and a store
into RAM changes the reads of its own cell only. -/

namespace Sys2Proof.Machine

/-! ## Reads beside data and control changes -/

/-- DIV is at 0xFF04 only. -/
theorem ioRegAt_div {n : Nat} (h : ioRegAt n = some .div) : n = 0xFF04 :=
  (by decide : ∀ p ∈ ioMap, p.2 = .div → p.1 = 0xFF04) _ (ioRegAt_mem h) rfl

/-- What an I/O read looks at: the register at its address, or wave RAM (R110). -/
theorem ioRead_congr {s t : State} {n : Nat} (hm : t.mem = s.mem)
    (hr : ∀ r, ioRegAt n = some r → regRead t r = regRead s r) : ioRead t n = ioRead s n := by
  unfold ioRead
  cases h : ioRegAt n with
  | none => simp only [hm]
  | some r => exact hr r h

/-- Data changes leave every read but that of P1 alone (R33, R481). -/
theorem DataOnly.memRead_eq {s t : State} (h : DataOnly s t) {b : Word} (hb : b ≠ 0xFF00#16) : memRead t b = memRead s b := by
  have io : ioRead t b.toNat = ioRead s b.toNat := by
    obtain ⟨_, _, _, -, -⟩ := h
    refine ioRead_congr rfl fun r hr => ?_
    cases r
    case p1 => exact absurd (BitVec.eq_of_toNat_eq (ioRegAt_p1 hr)) hb
    all_goals rfl
  simp only [memRead, readAt, io]
  obtain ⟨_, _, _, -, -⟩ := h
  rfl

/-- Control changes that do not restart the divider leave every read alone. -/
theorem ControlOnly.memRead_eq {s t : State} (h : ControlOnly s t) (ht : t.timer = s.timer) (b : Word) :
    memRead t b = memRead s b := by
  obtain ⟨_, _, _, _, tm, -, -⟩ := h
  obtain rfl : tm = s.timer := ht
  rfl

@[simp] theorem halt_timer (s : State) : (halt s).timer = s.timer := by
  unfold halt
  repeat' split
  all_goals rfl

@[simp] theorem enableInterrupts_timer (s : State) : (enableInterrupts s).timer = s.timer := by
  unfold enableInterrupts
  split <;> rfl

/-- STOP changes the read of DIV only (R323). -/
theorem memRead_stop {b : Word} (hb : b ≠ 0xFF04#16) (s : State) : memRead (stop s) b = memRead s b := by
  have io : ioRead (stop s) b.toNat = ioRead s b.toNat := by
    refine ioRead_congr rfl fun r hr => ?_
    cases r
    case div => exact absurd (BitVec.eq_of_toNat_eq (ioRegAt_div hr)) hb
    all_goals rfl
  simp only [memRead, readAt, io]
  rfl

/-! ## Stores into RAM -/

/-- Between `s` and `t` only P1 and the RAM cells behind `addrs` may read differently. The memory of `t` is canonical and its
display does not own `addrs`, so a further store there keeps the frame. -/
structure ReadsFramed (addrs : List Word) (s t : State) : Prop where
  wf : Memory.wf t.mem
  storable : ∀ a ∈ addrs, storable t a = true
  reads : ∀ b, b ≠ 0xFF00#16 → (∀ a ∈ addrs, ramCell b ≠ ramCell a) → memRead t b = memRead s b

namespace ReadsFramed

variable {addrs : List Word} {s t u : State}

/-- A change that `memRead`, the canonical form and the display's ownership do not see. -/
theorem congr (h : ReadsFramed addrs s t) (hm : u.mem = t.mem) (hl : u.lcd = t.lcd)
    (hr : ∀ b, b ≠ 0xFF00#16 → memRead u b = memRead t b) : ReadsFramed addrs s u where
  wf := hm ▸ h.wf
  storable := fun a ha => by
    have hst := h.storable a ha
    simpa only [Machine.storable, blockedAt, vramBlocked, oamBlocked, lcdOn, lcdMode, hl] using hst
  reads := fun b hb ho => (hr b hb).trans (h.reads b hb ho)

theorem data (h : ReadsFramed addrs s t) (hd : DataOnly t u) : ReadsFramed addrs s u :=
  h.congr (by cases hd; rfl) (by cases hd; rfl) fun _ => hd.memRead_eq

theorem control (h : ReadsFramed addrs s t) (hc : ControlOnly t u) (ht : u.timer = t.timer) : ReadsFramed addrs s u :=
  h.congr (by cases hc; rfl) (by cases hc; rfl) fun b _ => hc.memRead_eq ht b

/-- A store to one of the addresses. -/
theorem write (h : ReadsFramed addrs s t) {a : Word} (ha : a ∈ addrs) (v : Byte) : ReadsFramed addrs s (memWrite t a v) := by
  obtain ⟨k, hk, hb⟩ := storable_iff (h.storable a ha)
  refine ⟨memWrite_ram_wf h.wf hk hb v, fun c hc => ?_, fun b hne ho => ?_⟩
  · rw [Machine.storable, blockedAt_memWrite_ram hk hb]
    exact h.storable c hc
  · rw [memRead_memWrite_ram h.wf hk hb, if_neg (hk ▸ ho a ha)]
    exact h.reads b hne ho

theorem writeOpnd8 (h : ReadsFramed addrs s t) (v : Byte) (o : Opnd8) (ha : ∀ a ∈ opndAddrs t o, a ∈ addrs) :
    ReadsFramed addrs s (writeOpnd8 t v o) := by
  cases o with
  | reg r => exact h.data (.setReg8 t v r)
  | mHL => exact h.write (ha _ (by simp [opndAddrs])) v

theorem push16 (h : ReadsFramed addrs s t) (ha : ∀ a ∈ pushAddrs t, a ∈ addrs) (w : Word) :
    ReadsFramed addrs s (push16 t w) := by
  simp only [pushAddrs, List.forall_mem_cons] at ha
  obtain ⟨high, low, -⟩ := ha
  rw [push16_eq]
  exact ((((h.data (.setSP t _)).write high _).data (.setSP _ _)).write low _)

end ReadsFramed

/-- Reading the operand does not move it: it is written back at the address it was read from (R274). -/
theorem opndAddrs_readOpnd8 (s : State) (o : Opnd8) : opndAddrs (readOpnd8 s o).2 o = opndAddrs s o := by
  cases o with
  | reg r => rfl
  | mHL => simp [opndAddrs, readOpnd8, busRead, getHL]

/-! ## `exec` -/

/-- The next state that a meaning answers is framed. -/
def FramedTo (addrs : List Word) (s : State) : Result → Prop
  | .next t => ReadsFramed addrs s t
  | .fault _ => False
  | .refused _ => False

theorem ReadsFramed.done {addrs : List Word} {s t : State} (h : ReadsFramed addrs s t) {n : Nat} (hn : n ≤ 24) :
    FramedTo addrs s (done n t) := h.data (.cost t hn)

theorem ReadsFramed.call {addrs : List Word} {s t : State} (h : ReadsFramed addrs s t) (ha : ∀ a ∈ pushAddrs t, a ∈ addrs)
    (a : Word) {n : Nat} (hn : n ≤ 24) : FramedTo addrs s (call a n t) := ((h.push16 ha _).data (.setPC _ a)).done hn

/-- An instruction that stores nothing and is no control instruction changes data only. -/
theorem exec_framed_of_plain {s : State} (start : ReadsFramed [] s s) {i : Instr} (hs : storeAddrs s i = [])
    (hc : controlInstr i = false) : FramedTo [] s (exec i s) := by
  obtain ⟨t, ht⟩ := exec_next i s
  rw [ht]
  exact start.data ((exec_path_of_next ht).dataOnly (not_not.mpr hs) (by simp [hc]))

/-- Every instruction but STOP frames the reads by the addresses it stores to. -/
theorem exec_framed {s : State} (hm : Memory.wf s.mem) {i : Instr} (hst : ∀ a ∈ storeAddrs s i, storable s a = true)
    (hi : ∀ v, i ≠ .stop v) : FramedTo (storeAddrs s i) s (exec i s) := by
  have start : ReadsFramed (storeAddrs s i) s s := ⟨hm, hst, fun _ _ _ => rfl⟩
  have plain : storeAddrs s i = [] → controlInstr i = false → FramedTo (storeAddrs s i) s (exec i s) :=
    fun hs hc => hs ▸ exec_framed_of_plain (hs ▸ start) hs hc
  have modify : ∀ (o : Opnd8) (v : Byte), storeAddrs s i = opndAddrs s o →
      ReadsFramed (storeAddrs s i) s (writeOpnd8 (readOpnd8 s o).2 v o) := fun o v hs =>
    (start.data (.readOpnd8 s o)).writeOpnd8 v o (by simp [opndAddrs_readOpnd8, hs])
  have hshape := exec_shape s i
  generalize exec i s = r at hshape plain
  cases hshape with
  | loadReg _ _ h | loadA _ _ h | loadAStep _ h | loadPair _ _ h | loadSPFromHL h | loadHLFromSP _ h | popPair _ h
  | accumulate _ _ h | accumulateOpnd _ _ h | decimalAdjust h | complementA h | setCarry h | complementCarry h | addHL _ h
  | incPair _ h | decPair _ h | addSP _ h | rotateA _ h | bitOpnd _ _ h | jump _ _ h | jumpIf _ _ h
  | jumpRelativeIf _ _ h | ret _ h | retIf _ h | nop h => exact plain h.stores h.plain
  | loadImm o v h => exact (start.writeOpnd8 v o (by simp [h.stores])).done h.cost_le
  | storeReg r h => exact (start.write (by simp [h.stores]) _).done h.cost_le
  | storeA a n h => exact (start.write (by simp [h.stores]) _).done h.cost_le
  | storeAStep d h => exact ((start.write (by simp [h.stores]) _).data (.setHL _ _)).done h.cost_le
  | storeSP a h => exact ((start.write (by simp [h.stores]) _).write (by simp [h.stores]) _).done h.cost_le
  | pushPair q h => exact (start.push16 (by simp [h.stores]) _).done h.cost_le
  | incOpnd o h => exact ((modify o _ h.stores).data (.writeFlags _ _)).done h.cost_le
  | decOpnd o h => exact ((modify o _ h.stores).data (.writeFlags _ _)).done h.cost_le
  | shiftOpnd op o h => exact ((modify o _ h.stores).data (.writeFlags _ _)).done h.cost_le
  | resOpnd b o h => exact (modify o _ h.stores).done h.cost_le
  | setOpnd b o h => exact (modify o _ h.stores).done h.cost_le
  | call a n h => exact start.call (by simp [h.stores]) a h.cost_le
  | callIf c a h =>
    exact iteInduction (motive := FramedTo _ s) (fun hc => start.call (by simp [h.stores, hc]) a (by decide))
      (fun _ => start.done (by decide))
  | reti _ h =>
    have popped := (start.data (.pop16 s)).data (.setPC _ (pop16 s).1)
    exact (popped.control (.imeOn _) rfl).done (n := 16) (by decide)
  | halt _ h => exact (start.control (.halt s) (halt_timer s)).done (by decide)
  | stop n h => exact absurd h (hi n)
  | di _ h => exact (start.control (.disableInterrupts s) rfl).done (by decide)
  | ei _ h => exact (start.control (.enableInterrupts s) (enableInterrupts_timer s)).done (by decide)
  | illegal op _ _ h => exact start.control (.runState s _) rfl

/-- Settles O23: STOP restarts DIV and stores nothing; every other instruction is framed by its stores. -/
theorem memoryFrame : Obligations.MemoryFrame := by
  intro i s t hm ht hst b hb hdiv ho
  by_cases hi : ∃ v, i = .stop v
  · obtain ⟨v, rfl⟩ := hi
    obtain rfl : { stop s with cycles := 4 } = t := Host.Outcome.next.inj ht
    exact memRead_stop (fun h => hdiv h v rfl) s
  · have framed := exec_framed hm hst (not_exists.mp hi)
    rw [ht] at framed
    exact framed.reads b hb ho

end Sys2Proof.Machine
end

section
/-! SUPPORT. The encoding (O1, O2, O3, O5). The decoder's table gives every instruction back from its bytes (`statement_all`),
and the encoder gives back the bytes that any table entry was read from (`encode_decodeInstr`); the round trips on byte lists
put the two together. -/

namespace Sys2Proof

/-! ## The tables against the encoder -/

namespace Laws.EncodeShape

/-- Every instruction is as long as its first byte says and is its bytes' table entry. A form without an operand is one closed
entry of the tables; the forms with an operand are the lemmas above. -/
theorem statement_all (i : Instr) : Statement i := by
  cases i with
  | ld_BC_d16 n => exact ld_BC_d16 n
  | ld_B_d8 n => exact ld_B_d8 n
  | ld_mA16_SP n => exact ld_mA16_SP n
  | ld_C_d8 n => exact ld_C_d8 n
  | stop n => exact stop n
  | ld_DE_d16 n => exact ld_DE_d16 n
  | ld_D_d8 n => exact ld_D_d8 n
  | jr_e8 n => exact jr_e8 n
  | ld_E_d8 n => exact ld_E_d8 n
  | jr_NZ_e8 n => exact jr_NZ_e8 n
  | ld_HL_d16 n => exact ld_HL_d16 n
  | ld_H_d8 n => exact ld_H_d8 n
  | jr_Z_e8 n => exact jr_Z_e8 n
  | ld_L_d8 n => exact ld_L_d8 n
  | jr_NC_e8 n => exact jr_NC_e8 n
  | ld_SP_d16 n => exact ld_SP_d16 n
  | ld_mHL_d8 n => exact ld_mHL_d8 n
  | jr_C_e8 n => exact jr_C_e8 n
  | ld_A_d8 n => exact ld_A_d8 n
  | jp_NZ_a16 n => exact jp_NZ_a16 n
  | jp_a16 n => exact jp_a16 n
  | call_NZ_a16 n => exact call_NZ_a16 n
  | add_A_d8 n => exact add_A_d8 n
  | jp_Z_a16 n => exact jp_Z_a16 n
  | call_Z_a16 n => exact call_Z_a16 n
  | call_a16 n => exact call_a16 n
  | adc_A_d8 n => exact adc_A_d8 n
  | jp_NC_a16 n => exact jp_NC_a16 n
  | call_NC_a16 n => exact call_NC_a16 n
  | sub_d8 n => exact sub_d8 n
  | jp_C_a16 n => exact jp_C_a16 n
  | call_C_a16 n => exact call_C_a16 n
  | sbc_A_d8 n => exact sbc_A_d8 n
  | ldh_mA8_A n => exact ldh_mA8_A n
  | and_d8 n => exact and_d8 n
  | add_SP_e8 n => exact add_SP_e8 n
  | ld_mA16_A n => exact ld_mA16_A n
  | xor_d8 n => exact xor_d8 n
  | ldh_A_mA8 n => exact ldh_A_mA8 n
  | or_d8 n => exact or_d8 n
  | ld_HL_SPe8 n => exact ld_HL_SPe8 n
  | ld_A_mA16 n => exact ld_A_mA16 n
  | cp_d8 n => exact cp_d8 n
  | _ => exact ⟨rfl, rfl⟩

end Laws.EncodeShape

/-- The encoding is as long as its first byte says (R183). -/
theorem length_encode (i : Instr) : (encode i).length = instrLength i.opcode := (Laws.EncodeShape.statement_all i).1

/-- The table entry at an instruction's own bytes is the instruction. -/
theorem decodeInstr_encode (i : Instr) :
    decodeInstr i.opcode ((encode i).getD 1 0#8) ((encode i).getD 2 0#8) = i := (Laws.EncodeShape.statement_all i).2

/-- Two instructions never share an encoding: the tables read the instruction off its bytes. -/
theorem encode_injective : Function.Injective encode := fun i j h => by
  rw [← decodeInstr_encode i, ← decodeInstr_encode j, Instr.opcode, Instr.opcode, h]

/-- Table E-2 entry by entry: the encoding of an entry is 0xCB and the byte it stands at (R176). -/
theorem encode_decodeExtended (op2 : Byte) : encode (decodeExtended op2) = [0xCB#8, op2] := by
  revert op2; decide

/-- Table E-1 entry by entry (R175): after the opcode, an entry encodes to its immediate bytes, or to the halves of its
immediate word; the entry at 0xCB is one of Table E-2. -/
theorem encode_primary_entry (op b1 b2 : Byte) :
    encode (decodeInstr op b1 b2)
      = if op = 0xCB#8 then encode (decodeExtended b1)
        else if instrLength op = 3 then [op, loByte (mkWord b2 b1), hiByte (mkWord b2 b1)]
        else [op, b1].take (instrLength op) := by
  obtain ⟨n, hn, rfl⟩ : ∃ n < 256, op = BitVec.ofNat 8 n := ⟨op.toNat, op.isLt, by simp⟩
  interval_cases n <;> rfl

theorem instrLength_pos (op : Byte) : 1 ≤ instrLength op := by
  unfold instrLength
  split_ifs <;> decide

theorem instrLength_le (op : Byte) : instrLength op ≤ 3 := by
  unfold instrLength
  split_ifs <;> decide

/-- The encoder gives back the bytes a table entry was read from, as many as the first one asks for (R183). -/
theorem encode_decodeInstr (op b1 b2 : Byte) :
    encode (decodeInstr op b1 b2) = [op, b1, b2].take (instrLength op) := by
  rw [encode_primary_entry]
  split_ifs with hp h3
  · subst hp
    exact encode_decodeExtended b1
  · simp [h3]
  · have h2 : instrLength op ≤ 2 := by
      have := instrLength_le op
      omega
    interval_cases instrLength op <;> rfl

/-! ## Byte lists -/

/-- The bytes the decoder looks at, where the list holds a whole instruction: nothing read past the list's end counts. -/
theorem take_padded (op : Byte) {bytes : List Byte} {n : Nat} (hn : n ≤ 3) (h : n ≤ bytes.length + 1) :
    [op, bytes.getD 0 0#8, bytes.getD 1 0#8].take n = (op :: bytes).take n := by
  match bytes with
  | [] =>
    have h1 : n ≤ 1 := h
    interval_cases n <;> rfl
  | [b] =>
    have h2 : n ≤ 2 := h
    interval_cases n <;> rfl
  | b :: c :: _ => interval_cases n <;> rfl

/-- A list long enough for its first byte decodes, and the decoder leaves what is past the instruction. -/
theorem decode_of_le {op : Byte} {bytes : List Byte} (h : instrLength op ≤ bytes.length + 1) :
    decode (op :: bytes)
      = .ok (decodeInstr op (bytes.getD 0 0#8) (bytes.getD 1 0#8), (op :: bytes).drop (instrLength op)) := by
  have enough : ¬ bytes.length < instrLength op - 1 := by omega
  rw [decode, if_neg enough, List.drop_cons (instrLength_pos op)]

/-- A list that decodes holds a byte and is long enough for it. -/
theorem exists_cons_of_decode {bytes rest : List Byte} {i : Instr} (h : decode bytes = .ok (i, rest)) :
    ∃ op tail, bytes = op :: tail ∧ instrLength op ≤ tail.length + 1 := by
  cases bytes with
  | nil => cases h
  | cons op tail =>
    refine ⟨op, tail, rfl, ?_⟩
    by_contra hlt
    have short : tail.length < instrLength op - 1 := by omega
    rw [decode, if_pos short] at h
    cases h

/-- What the decoder reads from a list encodes to the list's first bytes. -/
theorem encode_decoded {op : Byte} {bytes : List Byte} (h : instrLength op ≤ bytes.length + 1) :
    encode (decodeInstr op (bytes.getD 0 0#8) (bytes.getD 1 0#8)) = (op :: bytes).take (instrLength op) := by
  rw [encode_decodeInstr, take_padded op (instrLength_le op) h]

/-- An encoding begins with the opcode byte (R170). -/
theorem exists_encode_eq_cons (i : Instr) : ∃ tail, encode i = i.opcode :: tail := by
  cases h : encode i with
  | nil =>
    have hlen := length_encode i
    have hpos := instrLength_pos i.opcode
    rw [h, List.length_nil] at hlen
    omega
  | cons op tail => exact ⟨tail, by simp [Instr.opcode, h]⟩

/-! ## The obligations -/

/-- Settles O1: the decoder takes as many bytes as the encoding has, what it reads encodes to those bytes, and no other
instruction does. -/
theorem decodeOfEncode : Obligations.DecodeOfEncode := by
  intro i rest
  obtain ⟨tail, hi⟩ := exists_encode_eq_cons i
  have hlen := length_encode i
  have hle : instrLength i.opcode ≤ (tail ++ rest).length + 1 := by
    rw [← hlen, hi]
    simp
  have same : decodeInstr i.opcode ((tail ++ rest).getD 0 0#8) ((tail ++ rest).getD 1 0#8) = i := by
    apply encode_injective
    rw [encode_decoded hle, ← List.cons_append, ← hi, List.take_left' hlen]
  rw [hi, List.cons_append, decode_of_le hle, same, ← List.cons_append, ← hi, List.drop_left' hlen]

/-- Settles O2: the first bytes of the list are the encoding, and the decoder leaves the others. -/
theorem encodeOfDecode : Obligations.EncodeOfDecode := by
  intro bytes rest i h
  obtain ⟨op, tail, rfl, hle⟩ := exists_cons_of_decode h
  rw [decode_of_le hle] at h
  obtain ⟨rfl, rfl⟩ := Prod.mk.inj (Except.ok.inj h)
  rw [encode_decoded hle, List.take_append_drop]

/-- Settles O3: the encoding is as long as its first byte says, and for each of the 256 bytes that is R183's figure. -/
theorem lengthByFirstByte : Obligations.LengthByFirstByte := by
  intro i
  rw [length_encode]
  generalize i.opcode = op
  revert op
  decide

/-- Settles O5, word by word. -/
theorem decodedWords : Obligations.DecodedWords :=
  ⟨rfl, rfl, rfl, rfl, rfl, rfl, rfl, rfl, rfl, rfl, rfl, rfl, rfl, rfl, rfl, rfl, rfl, rfl, rfl⟩

end Sys2Proof
end

section
/-! SUPPORT. Completion (O22, O4): the cost an instruction reports, that a legal one does not fault, and that the eleven
illegal opcodes do. -/

namespace Sys2Proof.Machine

/-! ## The cost -/

/-- A meaning answers a next state that reports the cost `n`. -/
def Reports (n : Nat) : Result → Prop
  | .next t => t.cycles = n
  | .fault _ => False
  | .refused _ => False

/-- A conditional transfer reports the figure of the branch it takes (R300). -/
theorem Reports.ite {p : Prop} [Decidable p] {m n : Nat} {r r' : Result} (h : Reports m r) (h' : Reports n r') :
    Reports (if p then m else n) (if p then r else r') := by
  split
  exacts [h, h']

/-- A legal instruction reports its cost of R184: its operation writes it last. -/
theorem exec_reports_cost (s : State) {i : Instr} (hl : i.wellFormed = true) : Reports (costOf s i) (exec i s) := by
  have hshape := exec_shape s i
  generalize exec i s = r at hshape
  cases hshape with
  | illegal _ _ _ h => cases hl.symm.trans h.legal
  | jumpIf _ _ h | jumpRelativeIf _ _ h | callIf _ _ h | retIf _ h =>
    rw [h.costs]
    exact .ite rfl rfl
  | _ =>
    rename_i h
    exact h.costs.symm

theorem takenCost_mod_four (op : Byte) : takenCost op % 4 = 0 := by
  revert op; decide

/-- R184 lists a cost for every opcode but 0xCB and the illegal ones. -/
theorem four_le_takenCost {op : Byte} (hl : op ∉ illegalOpcodes) (hp : op ≠ 0xCB#8) : 4 ≤ takenCost op := by
  revert op; decide

theorem notTakenCost_cases {op : Byte} {n : Nat} (h : notTakenCost op = some n) : n = 8 ∨ n = 12 := by
  unfold notTakenCost at h
  split_ifs at h <;> cases h <;> decide

theorem extendedCost_cases (op2 : Byte) : extendedCost op2 = 8 ∨ extendedCost op2 = 12 ∨ extendedCost op2 = 16 := by
  unfold extendedCost
  split_ifs <;> decide

theorem wellFormed_iff (i : Instr) : i.wellFormed = true ↔ i.opcode ∉ illegalOpcodes := by
  simp [Instr.wellFormed]

/-- The costs of R184 are multiples of 4, and no legal instruction is free. -/
theorem costOf_legal (s : State) {i : Instr} (hl : i.wellFormed = true) : costOf s i % 4 = 0 ∧ 4 ≤ costOf s i := by
  by_cases hp : i.opcode = 0xCB#8
  · rw [costOf, costOfBytes, if_pos hp]
    have := extendedCost_cases ((encode i).getD 1 0#8)
    omega
  · have taken : takenCost i.opcode % 4 = 0 ∧ 4 ≤ takenCost i.opcode :=
      ⟨takenCost_mod_four _, four_le_takenCost ((wellFormed_iff i).mp hl) hp⟩
    rw [costOf, costOfBytes, if_neg hp]
    cases hn : notTakenCost i.opcode with
    | none => exact taken
    | some n =>
      have notTaken : n % 4 = 0 ∧ 4 ≤ n := by
        have := notTakenCost_cases hn
        omega
      exact iteInduction (motive := fun n => n % 4 = 0 ∧ 4 ≤ n) (fun _ => taken) (fun _ => notTaken)

/-! ## The fatal state -/

theorem isFaulted_of_plain {s t : State} {i : Instr} (h : exec i s = .next t) (hc : controlInstr i = false) :
    isFaulted t = isFaulted s :=
  isFaulted_eq_of_runState (congrArg (fun c => c.2.2.1) (exec_controlState h hc))

/-- A legal instruction does not fault: outside the control instructions the run state stays, and no legal control
instruction raises the fatal state. -/
theorem exec_legal_not_faulted {s t : State} {i : Instr} (hl : i.wellFormed = true) (h : exec i s = .next t)
    (hs : isFaulted s = false) : isFaulted t = false := by
  have unchanged : t.runState = s.runState → isFaulted t = false := fun hr => (isFaulted_eq_of_runState hr).trans hs
  have hshape := exec_shape s i
  rw [h] at hshape
  generalize hr : (Host.Outcome.next t : Result) = r at hshape
  cases hshape with
  | illegal _ _ _ hf => cases hl.symm.trans hf.legal
  | reti => cases hr; exact unchanged (returnFromInterrupt_runState s)
  | halt => cases hr; exact isFaulted_halt hs
  | stop => cases hr; rfl
  | di => cases hr; exact unchanged rfl
  | ei => cases hr; exact unchanged (enableInterrupts_runState s)
  | _ =>
    rename_i hf
    exact (isFaulted_of_plain h hf.plain).trans hs

/-- Settles O22: `exec` always answers a next state; its reported cost and its run state are the lemmas above. -/
theorem everyLegalInstructionCompletes : Obligations.EveryLegalInstructionCompletes := by
  intro i s hl
  obtain ⟨t, ht⟩ := exec_next i s
  have hcost : t.cycles = costOf s i := by
    have := exec_reports_cost s hl
    rwa [ht] at this
  obtain ⟨hmod, hmin⟩ := costOf_legal s hl
  exact ⟨t, ht, hcost, hcost ▸ hmod, hcost ▸ hmin, hcost ▸ costOf_le s i, exec_legal_not_faulted hl ht⟩

/-! ## The opcode bytes -/

/-- The opcode of a table entry is the byte it stands at. -/
theorem opcode_decodeInstr (op b1 b2 : Byte) : (decodeInstr op b1 b2).opcode = op := by
  obtain ⟨n, hn⟩ := Nat.exists_eq_add_of_le' (instrLength_pos op)
  simp [Instr.opcode, encode_decodeInstr, hn]

/-- An instruction that is not legal raises the fatal state with its opcode and changes nothing else (R327, R430). -/
theorem exec_of_not_wellFormed (s : State) {i : Instr} (hl : i.wellFormed = false) :
    exec i s = .next (raiseIllegal i.opcode s) := by
  have hshape := exec_shape s i
  generalize exec i s = r at hshape
  cases hshape with
  | illegal op hi _ _ => rw [Instr.opcode, hi]; rfl
  | _ =>
    rename_i h
    cases hl.symm.trans h.legal

theorem instrLength_illegal {op : Byte} (h : op ∈ illegalOpcodes) : instrLength op = 1 := by
  revert op; decide

/-- Settles O4: the table entry at an opcode is legal exactly when the opcode is, so it completes or raises the fatal state. -/
theorem illegalOpcodesAreFatal : Obligations.IllegalOpcodesAreFatal := by
  intro op b1 b2 s
  have legal := wellFormed_iff (decodeInstr op b1 b2)
  rw [opcode_decodeInstr] at legal
  refine ⟨fun hop => ⟨instrLength_illegal hop, ?_⟩, fun hop => ?_⟩
  · have hf := exec_of_not_wellFormed s (Bool.eq_false_iff.mpr fun hw => legal.mp hw hop)
    rwa [opcode_decodeInstr] at hf
  · obtain ⟨t, ht, -, -, -, -, hrun⟩ := everyLegalInstructionCompletes _ s (legal.mpr hop)
    exact ⟨t, ht, hrun⟩

end Sys2Proof.Machine
end

section
/-! SUPPORT. The instruction fields of R172 and R173: what the statements say of a field value is what the model does with
the operand, or the pair, that the value selects; and the words and flag bytes of the statements as the model writes them. -/

namespace Sys2Proof.Machine

open Sys2Proof.Claims

/-! ## Field values -/

/-- A 3-bit field has eight values (R172). -/
theorem field3_cases {P : BitVec 3 → Prop} (r : BitVec 3) (h0 : P 0#3) (h1 : P 1#3) (h2 : P 2#3) (h3 : P 3#3) (h4 : P 4#3)
    (h5 : P 5#3) (h6 : P 6#3) (h7 : P 7#3) : P r := by
  obtain ⟨n, hn, rfl⟩ : ∃ n < 8, r = BitVec.ofNat 3 n := ⟨r.toNat, r.isLt, by simp⟩
  interval_cases n <;> assumption

/-- A 2-bit field has four values (R173). -/
theorem field2_cases {P : BitVec 2 → Prop} (p : BitVec 2) (h0 : P 0#2) (h1 : P 1#2) (h2 : P 2#2) (h3 : P 3#2) : P p := by
  obtain ⟨n, hn, rfl⟩ : ∃ n < 4, p = BitVec.ofNat 2 n := ⟨p.toNat, p.isLt, by simp⟩
  interval_cases n <;> assumption

/-! ## Operands -/

theorem operand_eq (s : State) (r : BitVec 3) : operand s r = (readOpnd8 s (opnd8Of r)).1 := by
  cases r using field3_cases <;> rfl

theorem afterOperand_eq (s : State) (r : BitVec 3) : afterOperand s r = (readOpnd8 s (opnd8Of r)).2 := by
  cases r using field3_cases <;> rfl

theorem putOperand_eq (s : State) (r : BitVec 3) (v : Byte) : putOperand s r v = writeOpnd8 s v (opnd8Of r) := by
  cases r using field3_cases <;> rfl

theorem opnd8Of_eq_mHL_iff (r : BitVec 3) : opnd8Of r = .mHL ↔ r = 6#3 := by
  revert r; decide

/-- The cost of a form whose operand is the field `r`: only the value 6 is memory (R184). -/
theorem opndCost_opnd8Of (m n : Nat) (r : BitVec 3) : opndCost m n (opnd8Of r) = if r = 6#3 then n else m := by
  cases r using field3_cases <;> rfl

/-! ## Pairs -/

theorem putPair_eq (s : State) (p : BitVec 2) (w : Word) : putPair s p w = setReg16 s w (reg16Of p) := by
  cases p using field2_cases <;> rfl

theorem stackPair_eq (s : State) (p : BitVec 2) : stackPair s p = getStackReg s (stackRegOf p) := by
  cases p using field2_cases <;> rfl

theorem putStackPair_eq (s : State) (p : BitVec 2) (w : Word) : putStackPair s p w = setStackReg s w (stackRegOf p) := by
  cases p using field2_cases <;> rfl

/-- Field value 2 is HL (R173). -/
theorem putPair_HL (s : State) (w : Word) : putPair s 2#2 w = setHL s w := putPair_eq s 2#2 w

/-! ## The stack -/

theorem pushed_eq (s : State) (v : Word) : pushed s v = push16 s v := (push16_eq s v).symm

theorem pop16_eq_popped (s : State) : pop16 s = (popWord s, popped s) := pop16_eq s

/-! ## Words and flag bytes -/

/-- The high page begins at 0xFF00 (R179). -/
theorem highPage_eq (n : Byte) : highPage n = 0xFF00#16 + n.zeroExtend 16 := by
  revert n; decide

/-- A displacement added modulo 2^16 is the sign-extended byte added (R11, R179). -/
theorem displaced_eq (w : Word) (e : Byte) : displaced w e = w + sext16 e := by
  rw [displaced, sext16, BitVec.signExtend, BitVec.ofInt_add, BitVec.ofInt_natCast, BitVec.ofNat_toNat,
    BitVec.setWidth_eq]

/-- The statements' F is the model's (R22). -/
theorem fByte_eq (z n h c : Bool) : fByte z n h c = packF z n h c := by
  revert z n h c; decide

end Sys2Proof.Machine
end

section
/-! SUPPORT. Loads, stores and stack transfers (O6 to O10): which operation of Machine/Loads.lean the opcode bytes of each
format run, and what each operation answers in the terms of the statements. -/

namespace Sys2Proof.Machine

open Sys2Proof.Claims

/-! ## Register and memory operands -/

section
variable {y z : BitVec 3} (b1 b2 : Byte) (s : State)

/-- The opcodes `01yyyzzz` whose destination is a register are `LD r,r'` and `LD r,(HL)` (R200, R202). -/
theorem exec_load_to_reg {d : Reg8} (hy : opnd8Of y = .reg d) :
    exec (decodeInstr (1#2 ++ y ++ z) b1 b2) s = loadReg d (opnd8Of z) s := by
  cases y using field3_cases <;> cases hy <;> cases z using field3_cases <;> rfl

/-- The opcodes `01110zzz` whose source is a register are `LD (HL),r` (R203). -/
theorem exec_load_to_mHL {r : Reg8} (hz : opnd8Of z = .reg r) :
    exec (decodeInstr (1#2 ++ 6#3 ++ z) b1 b2) s = storeReg r s := by
  cases z using field3_cases <;> cases hz <;> rfl

/-- The opcodes `00yyy110` are `LD r,d8` and `LD (HL),d8` (R201, R204). -/
theorem exec_load_immediate : exec (decodeInstr (0#2 ++ y ++ 6#3) b1 b2) s = loadImm (opnd8Of y) b1 s := by
  cases y using field3_cases <;> rfl

/-- A load between two operands reads the source and then writes the destination; it costs 8 cycles if one of them is in
memory (R200, R202, R203). -/
theorem exec_load (h : ¬(y = 6#3 ∧ z = 6#3)) :
    exec (decodeInstr (1#2 ++ y ++ z) b1 b2) s
      = .next (costing (if y = 6#3 ∨ z = 6#3 then 8 else 4) (putOperand (afterOperand s z) y (operand s z))) := by
  rw [putOperand_eq, afterOperand_eq, operand_eq]
  cases hy : opnd8Of y with
  | reg d =>
    have hreg : y ≠ 6#3 := by simp [← opnd8Of_eq_mHL_iff, hy]
    rw [exec_load_to_reg b1 b2 s hy, loadReg, opndCost_opnd8Of]
    simp only [hreg, false_or]
    rfl
  | mHL =>
    obtain rfl := (opnd8Of_eq_mHL_iff y).mp hy
    cases hz : opnd8Of z with
    | reg r =>
      rw [exec_load_to_mHL b1 b2 s hz, if_pos (.inl rfl)]
      rfl
    | mHL => exact absurd ⟨rfl, (opnd8Of_eq_mHL_iff z).mp hz⟩ h

end

theorem instrLength_load (y z : BitVec 3) : instrLength (1#2 ++ y ++ z) = 1 := by
  revert y z; decide

theorem instrLength_load_immediate (y : BitVec 3) : instrLength (0#2 ++ y ++ 6#3) = 2 := by
  revert y; decide

/-- Settles O6, from the two formats. -/
theorem loadForms : Obligations.LoadForms := by
  intro y z b1 b2 s
  refine ⟨fun h => ⟨instrLength_load y z, exec_load b1 b2 s h⟩, instrLength_load_immediate y, ?_⟩
  rw [exec_load_immediate, loadImm, putOperand_eq, opndCost_opnd8Of]
  rfl

/-! ## The accumulator and memory -/

/-- A load of A reads the bus at the form's address (R205, R206, R209, R211, R213). -/
theorem loadA_eq (a : Word) (n : Nat) (s : State) :
    loadA a n s = .next (costing n { afterRead s a with regs := { s.regs with a := memRead s a } }) := by
  rw [← afterRead_regs s a]
  rfl

/-- A store of A writes the bus at the form's address (R207, R208, R210, R212, R214). -/
theorem storeA_eq (a : Word) (n : Nat) (s : State) : storeA a n s = .next (costing n (memWrite s a s.regs.a)) := rfl

/-- Settles O7: five loads and five stores, each with its address. -/
theorem accumulatorMemoryForms : Obligations.AccumulatorMemoryForms := by
  intro b1 b2 s
  simp only [← highPage_eq, ← loadA_eq, ← storeA_eq]
  exact ⟨⟨⟨rfl, rfl⟩, ⟨rfl, rfl⟩, ⟨rfl, rfl⟩, ⟨rfl, rfl⟩, ⟨rfl, rfl⟩⟩,
    ⟨⟨rfl, rfl⟩, ⟨rfl, rfl⟩, ⟨rfl, rfl⟩, ⟨rfl, rfl⟩, ⟨rfl, rfl⟩⟩⟩

/-- A load of A that then moves HL by `d` (R216, R218): the address and the move both take the old HL. -/
theorem loadAStep_eq (d : Word) (s : State) :
    loadAStep d s = .next (costing 8
      (putPair { afterRead s (getHL s) with regs := { s.regs with a := memRead s (getHL s) } } 2#2 (getHL s + d))) := by
  rw [putPair_HL, ← afterRead_regs s (getHL s)]
  rfl

/-- A store of A that then moves HL by `d` (R215, R217): the address and the move both take the old HL. -/
theorem storeAStep_eq (d : Word) (s : State) :
    storeAStep d s = .next (costing 8 (putPair (memWrite s (getHL s) s.regs.a) 2#2 (getHL s + d))) := by
  rw [putPair_HL]
  rfl

/-- Settles O8: each opcode runs its operation with a move of 1 or of -1. -/
theorem stepLoadForms : Obligations.StepLoadForms := by
  intro b1 b2 s
  simp only [BitVec.sub_eq_add_neg]
  exact ⟨⟨rfl, storeAStep_eq 1#16 s⟩, ⟨rfl, storeAStep_eq (-1#16) s⟩, ⟨rfl, loadAStep_eq 1#16 s⟩,
    ⟨rfl, loadAStep_eq (-1#16) s⟩⟩

/-! ## Pairs -/

/-- The opcodes `00pp0001` are `LD rr,d16` (R219). -/
theorem exec_load_pair (p : BitVec 2) (b1 b2 : Byte) (s : State) :
    exec (decodeInstr (0#2 ++ p ++ 1#4) b1 b2) s = loadPair (reg16Of p) (mkWord b2 b1) s := by
  cases p using field2_cases <;> rfl

theorem instrLength_load_pair (p : BitVec 2) : instrLength (0#2 ++ p ++ 1#4) = 3 := by
  revert p; decide

/-- `LD HL,SP+e8` writes HL and all four flags (R227). -/
theorem loadHLFromSP_eq (e : Byte) (s : State) :
    loadHLFromSP e s = .next (costing 12 (withF (putPair s 2#2 (displaced s.regs.sp e))
      (fByte false false (decide (s.regs.sp.toNat % 16 + e.toNat % 16 > 15))
        (decide (s.regs.sp.toNat % 256 + e.toNat > 255))))) := by
  rw [putPair_HL, displaced_eq, fByte_eq]
  rfl

/-- Settles O9: the immediate form for every pair, then the three single opcodes. -/
theorem loadPairForms : Obligations.LoadPairForms := by
  intro p b1 b2 s
  refine ⟨⟨instrLength_load_pair p, ?_⟩, ⟨rfl, rfl⟩, ⟨rfl, rfl⟩, ⟨rfl, loadHLFromSP_eq b1 s⟩⟩
  rw [exec_load_pair, putPair_eq]
  rfl

/-! ## The stack -/

/-- The opcodes `11pp0101` are PUSH (R223). -/
theorem exec_push (p : BitVec 2) (b1 b2 : Byte) (s : State) :
    exec (decodeInstr (3#2 ++ p ++ 5#4) b1 b2) s = pushPair (stackRegOf p) s := by
  cases p using field2_cases <;> rfl

/-- The opcodes `11pp0001` are POP (R222, R224). -/
theorem exec_pop (p : BitVec 2) (b1 b2 : Byte) (s : State) :
    exec (decodeInstr (3#2 ++ p ++ 1#4) b1 b2) s = popPair (stackRegOf p) s := by
  cases p using field2_cases <;> rfl

theorem instrLength_push (p : BitVec 2) : instrLength (3#2 ++ p ++ 5#4) = 1 := by
  revert p; decide

theorem instrLength_pop (p : BitVec 2) : instrLength (3#2 ++ p ++ 1#4) = 1 := by
  revert p; decide

/-- Settles O10: PUSH is `Push16` of the pair, and POP writes the word of `Pop16` to it. -/
theorem stackForms : Obligations.StackForms := by
  intro p b1 b2 s
  refine ⟨⟨instrLength_push p, ?_⟩, instrLength_pop p, ?_⟩
  · rw [exec_push, pushPair, pushed_eq, stackPair_eq]
    rfl
  · rw [exec_pop, popPair, pop16_eq_popped, putStackPair_eq]
    rfl

end Sys2Proof.Machine
end

section
/-! SUPPORT. 8-bit arithmetic and logic (O12, O13, O15): which operation of Machine/Alu8.lean the opcode bytes of each format
run, and what each operation answers in the terms of the statements. -/

namespace Sys2Proof.Machine

open Sys2Proof.Claims

/-! ## Differences modulo 2^8 and flag bytes -/

theorem ofInt_sub (m n : Int) : BitVec.ofInt 8 (m - n) = BitVec.ofInt 8 m - BitVec.ofInt 8 n := by
  rw [sub_eq_add_neg, BitVec.ofInt_add, BitVec.ofInt_neg, sub_eq_add_neg]

theorem ofInt_toNat (b : Byte) : BitVec.ofInt 8 b.toNat = b := by simp

/-- All four flags written are a write of F (R12, R22). -/
theorem writeFlags_allFlags (s : State) (z n h c : Bool) : writeFlags s (allFlags z n h c) = withF s (fByte z n h c) := by
  rw [fByte_eq]
  rfl

@[simp] theorem flagN_withAF (s : State) (a : Byte) (z n h c : Bool) : flagN (withAF s a (fByte z n h c)) = n := by
  show (fByte z n h c).getLsbD 6 = n
  revert z n h c; decide

@[simp] theorem flagH_withAF (s : State) (a : Byte) (z n h c : Bool) : flagH (withAF s a (fByte z n h c)) = h := by
  show (fByte z n h c).getLsbD 5 = h
  revert z n h c; decide

@[simp] theorem flagC_withAF (s : State) (a : Byte) (z n h c : Bool) : flagC (withAF s a (fByte z n h c)) = c := by
  show (fByte z n h c).getLsbD 4 = c
  revert z n h c; decide

/-! ## The accumulator operations -/

/-- The model's difference of bytes is the difference of numbers of R234. -/
theorem subOut_value (a b : Byte) (c : Nat) : (subOut a b c).value = aluValue 3#3 a b c := by
  show _ = BitVec.ofInt 8 ((a.toNat : Int) - b.toNat - c)
  rw [ofInt_sub, ofInt_sub, ofInt_toNat, ofInt_toNat, BitVec.ofInt_natCast]
  rfl

theorem writeFlags_subOut (s : State) (a b : Byte) (c : Nat) :
    writeFlags s (subOut a b c).flags = withF s (aluFlagByte 3#3 a b c) := by
  show writeFlags s (allFlags ((subOut a b c).value == 0#8) _ _ _) = _
  rw [writeFlags_allFlags, subOut_value]
  rfl

/-- SUB is SBC without a borrow (R233, R234). -/
theorem aluValue_sub (a b : Byte) (c : Nat) : aluValue 2#3 a b c = aluValue 3#3 a b 0 := by
  simp [aluValue]

theorem aluFlagByte_sub (a b : Byte) (c : Nat) : aluFlagByte 2#3 a b c = aluFlagByte 3#3 a b 0 := by
  simp [aluFlagByte, aluValue]

/-- CP writes the flags of SUB: the difference is 0 exactly when the bytes are equal (R238). -/
theorem aluFlagByte_cp (a b : Byte) (c : Nat) : aluFlagByte 7#3 a b c = aluFlagByte 3#3 a b 0 := by
  have hz : (aluValue 3#3 a b 0 == 0#8) = (a == b) := by
    rw [← subOut_value]
    simp [subOut, BitVec.sub_eq_iff_eq_add]
  show _ = fByte (aluValue 3#3 a b 0 == 0#8) _ _ _
  rw [hz]
  rfl

/-- The operations' results (R231 to R237); CP keeps A. -/
theorem aluOut_value (y : BitVec 3) (a b : Byte) (c : Bool) :
    (if aluOpOf y = .cp then a else (aluOut (aluOpOf y) a b c).value) = aluValue y a b (carryIn c) := by
  cases y using field3_cases with
  | h2 => exact (subOut_value a b 0).trans (aluValue_sub a b _).symm
  | h3 => exact subOut_value a b _
  | _ => rfl

/-- The operations' flags (R231 to R238). -/
theorem writeFlags_aluOut (s : State) (y : BitVec 3) (a b : Byte) (c : Bool) :
    writeFlags s (aluOut (aluOpOf y) a b c).flags = withF s (aluFlagByte y a b (carryIn c)) := by
  cases y using field3_cases with
  | h2 => exact (writeFlags_subOut s a b 0).trans (congrArg (withF s) (aluFlagByte_sub a b _).symm)
  | h3 => exact writeFlags_subOut s a b _
  | h7 => exact (writeFlags_subOut s a b 0).trans (congrArg (withF s) (aluFlagByte_cp a b _).symm)
  | _ => exact writeFlags_allFlags s _ _ _ _

theorem carryNat_le (s : State) : carryNat s ≤ 1 := by
  unfold carryNat
  split <;> decide

/-- An accumulator operation writes A and F, and nothing else. -/
theorem accumulate_eq (y : BitVec 3) (b : Byte) (n : Nat) (s : State) :
    accumulate (aluOpOf y) b n s
      = .next (costing n (withAF s (aluValue y s.regs.a b (carryNat s)) (aluFlagByte y s.regs.a b (carryNat s)))) := by
  show _ = Host.Outcome.next (costing n (withAF s (aluValue y s.regs.a b (carryIn (flagC s))) _))
  rw [accumulate, writeFlags_aluOut, ← aluOut_value]
  split <;> rfl

/-- The opcodes `10yyyzzz` are the register and `(HL)` forms (R230). -/
theorem exec_accumulate_opnd (y z : BitVec 3) (b1 b2 : Byte) (s : State) :
    exec (decodeInstr (2#2 ++ y ++ z) b1 b2) s = accumulateOpnd (aluOpOf y) (opnd8Of z) s := by
  cases y using field3_cases <;> cases z using field3_cases <;> rfl

/-- The opcodes `11yyy110` are the immediate forms (R230). -/
theorem exec_accumulate_immediate (y : BitVec 3) (b1 b2 : Byte) (s : State) :
    exec (decodeInstr (3#2 ++ y ++ 6#3) b1 b2) s = accumulate (aluOpOf y) b1 8 s := by
  cases y using field3_cases <;> rfl

theorem instrLength_accumulate_opnd (y z : BitVec 3) : instrLength (2#2 ++ y ++ z) = 1 := by
  revert y z; decide

theorem instrLength_accumulate_immediate (y : BitVec 3) : instrLength (3#2 ++ y ++ 6#3) = 2 := by
  revert y; decide

/-- An operand read is its byte and the state after the read (R172). -/
theorem readOpnd8_opnd8Of (s : State) (r : BitVec 3) : readOpnd8 s (opnd8Of r) = (operand s r, afterOperand s r) := by
  rw [operand_eq, afterOperand_eq]

@[simp] theorem afterOperand_regs (s : State) (r : BitVec 3) : (afterOperand s r).regs = s.regs := by
  unfold afterOperand
  split
  exacts [afterRead_regs s _, rfl]

/-- Settles O12: the source operand is read, then the operation runs on the state after the read. -/
theorem accumulatorOperations : Obligations.AccumulatorOperations := by
  intro y z b1 b2 s
  have hregs := afterOperand_regs s z
  have hcarry : carryNat (afterOperand s z) = carryNat s := by rw [carryNat, carryNat, flagC, flagC, hregs]
  refine ⟨⟨instrLength_accumulate_opnd y z, ?_⟩, instrLength_accumulate_immediate y, ?_⟩
  · rw [exec_accumulate_opnd, accumulateOpnd, readOpnd8_opnd8Of]
    dsimp only
    rw [accumulate_eq, opndCost_opnd8Of, hregs, hcarry]
  · rw [exec_accumulate_immediate, accumulate_eq]

/-! ## INC and DEC -/

/-- A byte incremented, with the flags of R239. -/
theorem incOut_eq (old : Byte) :
    incOut old = ⟨BitVec.ofNat 8 (old.toNat + 1),
      ⟨some (BitVec.ofNat 8 (old.toNat + 1) == 0#8), some false, some (decide (old.toNat % 16 = 15)), none⟩⟩ := by
  rw [BitVec.ofNat_add, BitVec.ofNat_toNat, BitVec.setWidth_eq]
  rfl

/-- A byte decremented, with the flags of R241. -/
theorem decOut_eq (old : Byte) :
    decOut old = ⟨BitVec.ofInt 8 ((old.toNat : Int) - 1),
      ⟨some (BitVec.ofInt 8 ((old.toNat : Int) - 1) == 0#8), some true, some (decide (old.toNat % 16 = 0)), none⟩⟩ := by
  rw [ofInt_sub, ofInt_toNat]
  rfl

/-- Z, N and H written and Cy kept are a write of F (R12, R22). -/
theorem writeFlags_keepC (s : State) (z n h : Bool) :
    writeFlags s ⟨some z, some n, some h, none⟩ = withF s (fByte z n h (flagC s)) := by
  rw [fByte_eq]
  rfl

/-- A write of an operand leaves Cy alone. -/
@[simp] theorem flagC_putOperand (s : State) (r : BitVec 3) (v : Byte) : flagC (putOperand s r v) = flagC s := by
  cases r using field3_cases with
  | h6 => exact congrArg (·.f.getLsbD 4) (memWrite_regs s _ v)
  | _ => rfl

@[simp] theorem flagC_afterOperand (s : State) (r : BitVec 3) : flagC (afterOperand s r) = flagC s :=
  congrArg (·.f.getLsbD 4) (afterOperand_regs s r)

/-- An operand read and then written, with Cy kept: the end of INC and DEC (R239 to R242). -/
theorem done_putOperand_keepC (s : State) (r : BitVec 3) (v : Byte) (z n h : Bool) :
    done (opndCost 4 12 (opnd8Of r))
        (writeFlags (writeOpnd8 (afterOperand s r) v (opnd8Of r)) ⟨some z, some n, some h, none⟩)
      = .next (costing (if r = 6#3 then 12 else 4)
          (withF (putOperand (afterOperand s r) r v) (fByte z n h (flagC s)))) := by
  rw [writeFlags_keepC, ← putOperand_eq, flagC_putOperand, flagC_afterOperand, opndCost_opnd8Of]
  rfl

/-- The opcodes `00yyy100` are INC (R239, R240). -/
theorem exec_inc (y : BitVec 3) (b1 b2 : Byte) (s : State) :
    exec (decodeInstr (0#2 ++ y ++ 4#3) b1 b2) s = incOpnd (opnd8Of y) s := by
  cases y using field3_cases <;> rfl

/-- The opcodes `00yyy101` are DEC (R241, R242). -/
theorem exec_dec (y : BitVec 3) (b1 b2 : Byte) (s : State) :
    exec (decodeInstr (0#2 ++ y ++ 5#3) b1 b2) s = decOpnd (opnd8Of y) s := by
  cases y using field3_cases <;> rfl

theorem instrLength_inc (y : BitVec 3) : instrLength (0#2 ++ y ++ 4#3) = 1 := by
  revert y; decide

theorem instrLength_dec (y : BitVec 3) : instrLength (0#2 ++ y ++ 5#3) = 1 := by
  revert y; decide

/-- Settles O13: the operand is read, written, and the flags are written with the old Cy. -/
theorem incrementDecrement : Obligations.IncrementDecrement := by
  intro y b1 b2 s
  refine ⟨⟨instrLength_inc y, ?_⟩, instrLength_dec y, ?_⟩
  · rw [exec_inc, incOpnd, readOpnd8_opnd8Of]
    dsimp only
    rw [incOut_eq]
    exact done_putOperand_keepC s y _ _ _ _
  · rw [exec_dec, decOpnd, readOpnd8_opnd8Of]
    dsimp only
    rw [decOut_eq]
    exact done_putOperand_keepC s y _ _ _ _

/-! ## DAA and the carry instructions

DAA's two adjustments, after an addition and after a subtraction (R243), on the model's bytes (`daaOut`) and on the
statements' numbers (`daaFirst`, `daaValue`). -/

theorem daaOut_value_add (a : Byte) (h c : Bool) :
    (daaOut a false h c).value
      = if h = true ∨ (daaHigh a c).toNat % 16 > 9 then daaHigh a c + 6#8 else daaHigh a c := rfl

theorem daaFirst_add (a : Nat) (c : Bool) :
    daaFirst a false c = if c = true ∨ a > 0x99 then (a + 0x60) % 256 else a := rfl

theorem daaValue_add (a : Nat) (h c : Bool) :
    daaValue a false h c
      = if h = true ∨ daaFirst a false c % 16 > 9 then (daaFirst a false c + 6) % 256 else daaFirst a false c := rfl

theorem daaOut_value_sub (a : Byte) (h c : Bool) :
    (daaOut a true h c).value
      = if h = true then (if c = true then a - 0x60#8 else a) - 6#8 else if c = true then a - 0x60#8 else a := rfl

theorem daaFirst_sub (a : Nat) (c : Bool) :
    daaFirst a true c = if c = true then (a + 256 - 0x60) % 256 else a := rfl

theorem daaValue_sub (a : Nat) (h c : Bool) :
    daaValue a true h c = if h = true then (daaFirst a true c + 256 - 6) % 256 else daaFirst a true c := rfl

/-- A byte less `k` as a number (R10). -/
theorem toNat_sub_ofNat (a : Byte) {k : Nat} (hk : k < 256) : (a - BitVec.ofNat 8 k).toNat = (a.toNat + 256 - k) % 256 := by
  bv_omega

/-- The model's bytes after DAA's two adjustments are the numbers of R243. -/
theorem toNat_daaOut (a : Byte) (n h c : Bool) : (daaOut a n h c).value.toNat = daaValue a.toNat n h c := by
  cases n with
  | false =>
    have high : (daaHigh a c).toNat = daaFirst a.toNat false c := by
      rw [daaHigh, daaFirst_add, apply_ite BitVec.toNat, BitVec.toNat_add]
      rfl
    rw [daaOut_value_add, daaValue_add, apply_ite BitVec.toNat, BitVec.toNat_add, high]
    rfl
  | true =>
    have high : (if c = true then a - 0x60#8 else a).toNat = daaFirst a.toNat true c := by
      rw [daaFirst_sub, apply_ite BitVec.toNat, toNat_sub_ofNat a (by decide)]
    rw [daaOut_value_sub, daaValue_sub, apply_ite BitVec.toNat, toNat_sub_ofNat _ (by decide), high]

/-- DAA's flags: Z by the value, N kept, H cleared, Cy set by a high adjustment after an addition (R243). -/
theorem daaOut_flags (a : Byte) (n h c : Bool) :
    (daaOut a n h c).flags
      = ⟨some (decide (daaValue a.toNat n h c = 0)), none, some false, some (c || (!n && decide (a.toNat > 0x99)))⟩ := by
  have hz : ((daaOut a n h c).value == 0#8) = decide (daaValue a.toNat n h c = 0) := by
    rw [← toNat_daaOut, beq_eq_decide]
    exact decide_eq_decide.mpr BitVec.toNat_eq
  rw [← hz]
  cases n with
  | false => rfl
  | true =>
    rw [Bool.not_true, Bool.false_and, Bool.or_false]
    rfl

/-- DAA writes A and F as R243 says. -/
theorem decimalAdjust_eq (s : State) :
    decimalAdjust s = .next (costing 4
      (withAF s (BitVec.ofNat 8 (daaValue s.regs.a.toNat (flagN s) (flagH s) (flagC s)))
        (fByte (decide (daaValue s.regs.a.toNat (flagN s) (flagH s) (flagC s) = 0)) (flagN s) false
          (flagC s || (!flagN s && decide (s.regs.a.toNat > 0x99)))))) := by
  rw [decimalAdjust, daaOut_flags, fByte_eq, ← toNat_daaOut, BitVec.ofNat_toNat, BitVec.setWidth_eq]
  rfl

/-- CPL subtracts A from 255, sets N and H and keeps Z and Cy (R244). -/
theorem complementA_eq (s : State) :
    complementA s = .next (costing 4
      (withAF s (BitVec.ofNat 8 (255 - s.regs.a.toNat)) (fByte (flagZ s) true true (flagC s)))) := by
  have hnot : BitVec.ofNat 8 (255 - s.regs.a.toNat) = ~~~s.regs.a := BitVec.eq_of_toNat_eq (by simp; omega)
  rw [complementA, fByte_eq, hnot]
  rfl

/-- Settles O15: each of the four opcodes runs its operation. -/
theorem accumulatorAdjustments : Obligations.AccumulatorAdjustments := by
  intro b1 b2 s
  refine ⟨⟨rfl, decimalAdjust_eq s⟩, ⟨rfl, complementA_eq s⟩, ⟨rfl, ?_⟩, rfl, ?_⟩
  all_goals
    rw [fByte_eq]
    rfl

end Sys2Proof.Machine
end

section
/-! SUPPORT. Decimal arithmetic (O14): A and Cy after ADC or SBC and then DAA, and why DAA's two adjustments leave decimal
digits. -/

namespace Sys2Proof.Machine

open Sys2Proof.Claims

/-! ## DAA after an operation -/

/-- DAA in a state whose A and flags the operation before it wrote. -/
theorem daa_withAF (k : Nat) (s : State) (a : Byte) (z n h c : Bool) :
    exec .daa (costing k (withAF s a (fByte z n h c)))
      = .next (costing 4 (withAF s (BitVec.ofNat 8 (daaValue a.toNat n h c))
          (fByte (decide (daaValue a.toNat n h c = 0)) n false (c || (!n && decide (a.toNat > 0x99)))))) := by
  have hn : flagN (costing k (withAF s a (fByte z n h c))) = n := flagN_withAF s a z n h c
  have hh : flagH (costing k (withAF s a (fByte z n h c))) = h := flagH_withAF s a z n h c
  have hc : flagC (costing k (withAF s a (fByte z n h c))) = c := flagC_withAF s a z n h c
  refine (decimalAdjust_eq _).trans ?_
  rw [hn, hh, hc]
  rfl

/-- An instruction that writes A and the flags, and then DAA: what A and Cy hold. -/
theorem exec_then_daa {i : Instr} {s : State} {k : Nat} {a : Byte} {z n h c : Bool}
    (hi : exec i s = .next (costing k (withAF s a (fByte z n h c)))) :
    ∃ t u, exec i s = .next t ∧ exec .daa t = .next u ∧ u.regs.a = BitVec.ofNat 8 (daaValue a.toNat n h c)
      ∧ flagC u = (c || (!n && decide (a.toNat > 0x99))) :=
  ⟨_, _, hi, daa_withAF k s a z n h c, rfl, flagC_withAF ..⟩

section
variable (b : Byte) (s : State)

theorem adc_then_daa :
    ∃ t u, exec (.adc_A_d8 b) s = .next t ∧ exec .daa t = .next u
      ∧ u.regs.a = BitVec.ofNat 8 (daaValue ((s.regs.a.toNat + b.toNat + carryNat s) % 256) false
          (decide (s.regs.a.toNat % 16 + b.toNat % 16 + carryNat s > 15))
          (decide (s.regs.a.toNat + b.toNat + carryNat s > 255)))
      ∧ flagC u = (decide (s.regs.a.toNat + b.toNat + carryNat s > 255)
          || (!false && decide ((s.regs.a.toNat + b.toNat + carryNat s) % 256 > 0x99))) := by
  have hadc : exec (.adc_A_d8 b) s = .next (costing 8 (withAF s (BitVec.ofNat 8 (s.regs.a.toNat + b.toNat + carryNat s))
      (fByte _ false (decide (s.regs.a.toNat % 16 + b.toNat % 16 + carryNat s > 15))
        (decide (s.regs.a.toNat + b.toNat + carryNat s > 255))))) := accumulate_eq 1#3 b 8 s
  have := exec_then_daa hadc
  rwa [BitVec.toNat_ofNat] at this

theorem sbc_then_daa :
    ∃ t u, exec (.sbc_A_d8 b) s = .next t ∧ exec .daa t = .next u
      ∧ u.regs.a = BitVec.ofNat 8 (daaValue ((s.regs.a.toNat + 256 - b.toNat - carryNat s) % 256) true
          (decide (s.regs.a.toNat % 16 < b.toNat % 16 + carryNat s)) (decide (s.regs.a.toNat < b.toNat + carryNat s)))
      ∧ flagC u = decide (s.regs.a.toNat < b.toNat + carryNat s) := by
  have hsbc : exec (.sbc_A_d8 b) s = .next (costing 8
      (withAF s (BitVec.ofInt 8 ((s.regs.a.toNat : Int) - b.toNat - carryNat s))
        (fByte _ true (decide (s.regs.a.toNat % 16 < b.toNat % 16 + carryNat s))
          (decide (s.regs.a.toNat < b.toNat + carryNat s))))) := accumulate_eq 3#3 b 8 s
  have hvalue : (BitVec.ofInt 8 ((s.regs.a.toNat : Int) - b.toNat - carryNat s)).toNat
      = (s.regs.a.toNat + 256 - b.toNat - carryNat s) % 256 := by
    have := carryNat_le s
    have := b.isLt
    rw [BitVec.toNat_ofInt]
    omega
  have := exec_then_daa hsbc
  rwa [hvalue, Bool.not_true, Bool.false_and, Bool.or_false] at this

end

/-! ## Decimal digits

In a binary sum of packed decimal digits a carry out of a digit counts 16 where it should count 10: the sum falls short of
its decimal digits by 6 for a carry `k` out of the low digit, and by 0x60 for a carry `m` out of the high one. DAA adds what
is missing; after a difference it takes the same excess away, `k` and `m` then being the borrows. -/

section
variable {v m t r k : Nat} (hm : m ≤ 1) (hk : k ≤ 1) (ht : t < 10) (hr : r < 10)
include hm hk ht hr

/-- The high adjustment is made exactly when the high digit carries. -/
theorem high_adjustment_iff (hv : v + 6 * k = 160 * m + 16 * t + r) : v > 255 ∨ v % 256 > 0x99 ↔ m = 1 := by
  omega

theorem daaFirst_sum (hv : v + 6 * k = 160 * m + 16 * t + r) :
    daaFirst (v % 256) false (decide (v > 255)) = (256 + 16 * t + r - 6 * k) % 256 := by
  have high := high_adjustment_iff hm hk ht hr hv
  simp only [daaFirst_add, decide_eq_true_eq, high]
  split_ifs <;> omega

/-- After a sum the low adjustment is made exactly when the low digit carries: by H, or by a low nibble above 9. -/
theorem daaValue_sum (hv : v + 6 * k = 160 * m + 16 * t + r) :
    daaValue (v % 256) false (decide (10 * k + r > 15)) (decide (v > 255)) = 16 * t + r := by
  have low : 10 * k + r > 15 ∨ (256 + 16 * t + r - 6 * k) % 256 % 16 > 9 ↔ k = 1 := by omega
  simp only [daaValue_add, daaFirst_sum hm hk ht hr hv, decide_eq_true_eq, low]
  split_ifs <;> omega

/-- After a difference H and Cy are the digits' borrows. -/
theorem daaValue_difference (hv : v + 160 * m = 256 + 16 * t + r + 6 * k) :
    daaValue (v % 256) true (decide (k = 1)) (decide (m = 1)) = 16 * t + r := by
  have high : daaFirst (v % 256) true (decide (m = 1)) = (16 * t + r + 6 * k) % 256 := by
    simp only [daaFirst_sub, decide_eq_true_eq]
    split_ifs <;> omega
  simp only [daaValue_sub, high, decide_eq_true_eq]
  split_ifs <;> omega

end

/-- A number below 100 with its two decimal digits as nibbles. -/
def digitNibbles (n : Nat) : Nat := 16 * (n / 10) + n % 10

theorem toNat_packedDecimal {n : Nat} (h : n < 100) : (packedDecimal n).toNat = digitNibbles n := by
  rw [packedDecimal, BitVec.toNat_ofNat, digitNibbles]
  omega

section
variable {x y c : Nat} (hx : x < 100) (hy : y < 100) (hc : c ≤ 1)
include hx hy hc

/-- Addition of two decimal digits on paper: digits `t r`, carries `m k`. -/
theorem exists_digits_sum : ∃ m t r k, m ≤ 1 ∧ k ≤ 1 ∧ t < 10 ∧ r < 10
    ∧ x + y + c = 100 * m + 10 * t + r ∧ x % 10 + y % 10 + c = 10 * k + r :=
  ⟨(x + y + c) / 100, (x + y + c) / 10 % 10, (x + y + c) % 10, (x % 10 + y % 10 + c) / 10, by omega⟩

/-- Subtraction of two decimal digits on paper: digits `t r`, borrows `m k`. -/
theorem exists_digits_difference : ∃ m t r k, m ≤ 1 ∧ k ≤ 1 ∧ t < 10 ∧ r < 10
    ∧ x + 100 * m = y + c + 10 * t + r ∧ x % 10 + 10 * k = y % 10 + c + r :=
  ⟨(y + c + 99 - x) / 100, (x + 100 - y - c) / 10 % 10, (x + 100 - y - c) % 10, (y % 10 + c + 9 - x % 10) / 10, by omega⟩

theorem daa_digitNibbles_sum :
    daaValue ((digitNibbles x + digitNibbles y + c) % 256) false
        (decide (digitNibbles x % 16 + digitNibbles y % 16 + c > 15)) (decide (digitNibbles x + digitNibbles y + c > 255))
      = digitNibbles ((x + y + c) % 100)
    ∧ (digitNibbles x + digitNibbles y + c > 255 ∨ (digitNibbles x + digitNibbles y + c) % 256 > 0x99
        ↔ x + y + c ≥ 100) := by
  obtain ⟨m, t, r, k, hm, hk, ht, hr, hsum, hlow⟩ := exists_digits_sum hx hy hc
  have hv : digitNibbles x + digitNibbles y + c + 6 * k = 160 * m + 16 * t + r := by
    unfold digitNibbles
    omega
  have hnibbles : digitNibbles x % 16 + digitNibbles y % 16 + c = 10 * k + r := by
    unfold digitNibbles
    omega
  have hdigits : digitNibbles ((x + y + c) % 100) = 16 * t + r := by
    unfold digitNibbles
    omega
  refine ⟨?_, (high_adjustment_iff hm hk ht hr hv).trans (by omega)⟩
  rw [hnibbles, hdigits]
  exact daaValue_sum hm hk ht hr hv

theorem daa_digitNibbles_difference :
    daaValue ((digitNibbles x + 256 - digitNibbles y - c) % 256) true
        (decide (digitNibbles x % 16 < digitNibbles y % 16 + c)) (decide (digitNibbles x < digitNibbles y + c))
      = digitNibbles ((x + 100 - y - c) % 100)
    ∧ (digitNibbles x < digitNibbles y + c ↔ x < y + c) := by
  obtain ⟨m, t, r, k, hm, hk, ht, hr, hdiff, hlow⟩ := exists_digits_difference hx hy hc
  have hv : digitNibbles x + 256 - digitNibbles y - c + 160 * m = 256 + 16 * t + r + 6 * k := by
    unfold digitNibbles
    omega
  have hhalf : digitNibbles x % 16 < digitNibbles y % 16 + c ↔ k = 1 := by
    unfold digitNibbles
    omega
  have hborrow : digitNibbles x < digitNibbles y + c ↔ m = 1 := by
    unfold digitNibbles
    omega
  have hdigits : digitNibbles ((x + 100 - y - c) % 100) = 16 * t + r := by
    unfold digitNibbles
    omega
  refine ⟨?_, hborrow.trans (by omega)⟩
  rw [decide_eq_decide.mpr hhalf, decide_eq_decide.mpr hborrow, hdigits]
  exact daaValue_difference hm hk ht hr hv

end

/-- Settles O14: DAA's two adjustments turn the binary sum and difference of the digits into the decimal ones. -/
theorem decimalAdjustCorrectsBcd : Obligations.DecimalAdjustCorrectsBcd := by
  intro x y s hx hy ha
  have hc := carryNat_le s
  have hX : s.regs.a.toNat = digitNibbles x := by rw [ha, toNat_packedDecimal hx]
  have hY := toNat_packedDecimal hy
  constructor
  · obtain ⟨t, u, hadc, hdaa, hvalue, hcarry⟩ := adc_then_daa (packedDecimal y) s
    rw [hX, hY] at hvalue hcarry
    obtain ⟨digits, carry⟩ := daa_digitNibbles_sum hx hy hc
    refine ⟨t, u, hadc, hdaa, hvalue.trans (congrArg (BitVec.ofNat 8) digits), hcarry.trans ?_⟩
    rw [Bool.not_false, Bool.true_and, ← Bool.decide_or]
    exact decide_eq_decide.mpr carry
  · obtain ⟨t, u, hsbc, hdaa, hvalue, hcarry⟩ := sbc_then_daa (packedDecimal y) s
    rw [hX, hY] at hvalue hcarry
    obtain ⟨digits, borrow⟩ := daa_digitNibbles_difference hx hy hc
    exact ⟨t, u, hsbc, hdaa, hvalue.trans (congrArg (BitVec.ofNat 8) digits), hcarry.trans (decide_eq_decide.mpr borrow)⟩

end Sys2Proof.Machine
end

section
/-! SUPPORT. 16-bit arithmetic (O16): which operation of Machine/Alu16.lean the opcode bytes of each format run, and what each
operation answers in the terms of the statement. -/

namespace Sys2Proof.Machine

open Sys2Proof.Claims

/-- The opcodes `00pp1001` are `ADD HL,rr` (R260). -/
theorem exec_add_pair (p : BitVec 2) (b1 b2 : Byte) (s : State) :
    exec (decodeInstr (0#2 ++ p ++ 9#4) b1 b2) s = addHL (reg16Of p) s := by
  cases p using field2_cases <;> rfl

/-- The opcodes `00pp0011` are `INC rr` (R261). -/
theorem exec_inc_pair (p : BitVec 2) (b1 b2 : Byte) (s : State) :
    exec (decodeInstr (0#2 ++ p ++ 3#4) b1 b2) s = incPair (reg16Of p) s := by
  cases p using field2_cases <;> rfl

/-- The opcodes `00pp1011` are `DEC rr` (R262). -/
theorem exec_dec_pair (p : BitVec 2) (b1 b2 : Byte) (s : State) :
    exec (decodeInstr (0#2 ++ p ++ 11#4) b1 b2) s = decPair (reg16Of p) s := by
  cases p using field2_cases <;> rfl

theorem instrLength_add_pair (p : BitVec 2) : instrLength (0#2 ++ p ++ 9#4) = 1 := by
  revert p; decide

theorem instrLength_inc_pair (p : BitVec 2) : instrLength (0#2 ++ p ++ 3#4) = 1 := by
  revert p; decide

theorem instrLength_dec_pair (p : BitVec 2) : instrLength (0#2 ++ p ++ 11#4) = 1 := by
  revert p; decide

/-- The pair of the field `rr` is the register the field selects (R173). -/
theorem pair_eq (s : State) (p : BitVec 2) : pair s p = getReg16 s (reg16Of p) := by
  cases p using field2_cases <;> rfl

/-- N, H and Cy written and Z kept are a write of F (R12, R22). -/
theorem writeFlags_keepZ (s : State) (n h c : Bool) :
    writeFlags s ⟨none, some n, some h, some c⟩ = withF s (fByte (flagZ s) n h c) := by
  rw [fByte_eq]
  rfl

/-- `ADD HL,rr` writes HL, and N, H and Cy by the sum of the old words (R260). -/
theorem addHL_eq (p : BitVec 2) (s : State) :
    addHL (reg16Of p) s = .next (costing 8 (withF (putPair s 2#2 (BitVec.ofNat 16 ((getHL s).toNat + (pair s p).toNat)))
      (fByte (flagZ s) false (decide ((getHL s).toNat % 4096 + (pair s p).toNat % 4096 > 4095))
        (decide ((getHL s).toNat + (pair s p).toNat > 65535))))) := by
  rw [addHL, ← pair_eq, addHLFlags, writeFlags_keepZ, putPair_HL, ← BitVec.add_def]
  rfl

/-- `INC rr` writes the pair's successor modulo 2^16 (R261). -/
theorem incPair_eq (p : BitVec 2) (s : State) :
    incPair (reg16Of p) s = .next (costing 8 (putPair s p (BitVec.ofNat 16 ((pair s p).toNat + 1)))) := by
  rw [incPair, ← pair_eq, ← putPair_eq, BitVec.ofNat_add, BitVec.ofNat_toNat, BitVec.setWidth_eq]
  rfl

/-- `DEC rr` writes the pair's predecessor modulo 2^16 (R262). -/
theorem decPair_eq (p : BitVec 2) (s : State) :
    decPair (reg16Of p) s = .next (costing 8 (putPair s p (BitVec.ofInt 16 (((pair s p).toNat : Int) - 1)))) := by
  have hpred : BitVec.ofInt 16 (((pair s p).toNat : Int) - 1) = pair s p - 1#16 := by
    rw [sub_eq_add_neg, BitVec.ofInt_add, BitVec.ofInt_natCast, BitVec.ofNat_toNat, BitVec.setWidth_eq, BitVec.sub_eq_add_neg]
    rfl
  rw [decPair, ← pair_eq, ← putPair_eq, hpred]
  rfl

/-- `ADD SP,e8` writes SP and all four flags (R263). -/
theorem addSP_eq (e : Byte) (s : State) :
    addSP e s = .next (costing 16 (withF { s with regs := { s.regs with sp := displaced s.regs.sp e } }
      (fByte false false (decide (s.regs.sp.toNat % 16 + e.toNat % 16 > 15))
        (decide (s.regs.sp.toNat % 256 + e.toNat > 255))))) := by
  rw [addSP, addSPFlags, writeFlags_allFlags, displaced_eq]
  rfl

/-- Settles O16: each format runs its operation, and each operation writes what its rule says. -/
theorem wideArithmetic : Obligations.WideArithmetic := by
  intro p b1 b2 s
  exact ⟨⟨instrLength_add_pair p, (exec_add_pair p b1 b2 s).trans (addHL_eq p s)⟩,
    ⟨instrLength_inc_pair p, (exec_inc_pair p b1 b2 s).trans (incPair_eq p s)⟩,
    ⟨instrLength_dec_pair p, (exec_dec_pair p b1 b2 s).trans (decPair_eq p s)⟩,
    rfl, addSP_eq b1 s⟩

end Sys2Proof.Machine
end

section
/-! SUPPORT. Rotates, shifts and bit operations (O17, O18): which operation of Machine/RotateBit.lean the opcode bytes of each
format run, and what each operation answers in the terms of the statements. -/

namespace Sys2Proof.Machine

open Sys2Proof.Claims

/-! ## The shifted value and the bit shifted out -/

/-- Two bit strings joined are a number modulo their width; `k` is what the number has above the width. -/
theorem append_eq_ofNat {m n v : Nat} (k : Nat) {hi : BitVec m} {lo : BitVec n}
    (hv : v = hi.toNat * 2 ^ n + lo.toNat + 2 ^ (m + n) * k) : hi ++ lo = BitVec.ofNat (m + n) v := by
  have joined : (hi ++ lo).toNat = hi.toNat * 2 ^ n + lo.toNat := by
    rw [BitVec.toNat_append, ← Nat.shiftLeft_add_eq_or_of_lt lo.isLt, Nat.shiftLeft_eq]
  apply BitVec.eq_of_toNat_eq
  rw [BitVec.toNat_ofNat, hv, Nat.add_mul_mod_self_left, ← joined, Nat.mod_eq_of_lt (hi ++ lo).isLt]

/-- The model's bit strings of R275 to R282 are the statements' numbers: a left shift moves bit 7 above the byte, SWAP the
high nibble. -/
theorem shiftValue_eq (y : BitVec 3) (x : Byte) (c : Bool) : shiftValue (shiftOpOf y) x c = shiftResult y x c := by
  have hx := x.isLt
  cases y using field3_cases
  case' h0 | h2 | h4 => refine append_eq_ofNat (x.toNat / 128) ?_
  case' h6 => refine append_eq_ofNat (x.toNat / 16) ?_
  case' h1 | h3 | h5 | h7 => refine append_eq_ofNat 0 ?_
  all_goals
    simp only [BitVec.extractLsb'_toNat, Nat.shiftRight_eq_div_pow, BitVec.toNat_ofBool, Bool.toNat, cond_eq_ite,
      BitVec.toNat_ofNat, reduceIte, BitVec.reduceEq]
    omega

/-- The model's bit shifted out is the statements' (R275 to R282): bit 7, no bit, or bit 0. -/
theorem shiftCarry_eq (y : BitVec 3) (x : Byte) : shiftCarry (shiftOpOf y) x = shiftOutBit y x := by
  cases y using field3_cases with
  | h0 | h2 | h4 => exact BitVec.msb_eq_decide x
  | h6 => rfl
  | _ => exact Nat.testBit_zero x.toNat

/-! ## Rotates and shifts -/

/-- The opcodes `000yy111` are the accumulator rotates (R270 to R273). -/
theorem exec_rotateA (y : BitVec 2) (b1 b2 : Byte) (s : State) :
    exec (decodeInstr (0#3 ++ y ++ 7#3) b1 b2) s = rotateA (shiftOpOf (0#1 ++ y)) s := by
  cases y using field2_cases <;> rfl

/-- The second bytes `00yyyzzz` are the extended rotates, shifts and SWAP (R178). -/
theorem exec_shiftOpnd (y z : BitVec 3) (b2 : Byte) (s : State) :
    exec (decodeInstr 0xCB#8 (0#2 ++ y ++ z) b2) s = shiftOpnd (shiftOpOf y) (opnd8Of z) s := by
  cases y using field3_cases <;> cases z using field3_cases <;> rfl

theorem instrLength_rotateA (y : BitVec 2) : instrLength (0#3 ++ y ++ 7#3) = 1 := by
  revert y; decide

/-- An accumulator rotate writes A and F, with Z clear (R270 to R273). -/
theorem rotateA_eq (y : BitVec 3) (s : State) :
    rotateA (shiftOpOf y) s = .next (costing 4 (withAF s (shiftResult y s.regs.a (flagC s))
      (fByte false false false (shiftOutBit y s.regs.a)))) := by
  rw [rotateA, rotateAOut, writeFlags_allFlags, shiftValue_eq, shiftCarry_eq]
  rfl

/-- An extended rotate, shift or swap reads its operand, writes it and then writes all four flags (R274 to R282). -/
theorem shiftOpnd_eq (y z : BitVec 3) (s : State) :
    shiftOpnd (shiftOpOf y) (opnd8Of z) s = .next (costing (if z = 6#3 then 16 else 8)
      (withF (putOperand (afterOperand s z) z (shiftResult y (operand s z) (flagC s)))
        (fByte (shiftResult y (operand s z) (flagC s) == 0#8) false false (shiftOutBit y (operand s z))))) := by
  rw [shiftOpnd, readOpnd8_opnd8Of]
  dsimp only
  rw [shiftOut, writeFlags_allFlags, shiftValue_eq, shiftCarry_eq, ← putOperand_eq, opndCost_opnd8Of]
  rfl

/-- Settles O17: each format runs its operation, and each operation writes what its rule says. -/
theorem rotatesAndShifts : Obligations.RotatesAndShifts :=
  ⟨fun y b1 b2 s => ⟨instrLength_rotateA y, (exec_rotateA y b1 b2 s).trans (rotateA_eq (0#1 ++ y) s)⟩,
    fun y z b2 s => ⟨rfl, (exec_shiftOpnd y z b2 s).trans (shiftOpnd_eq y z s)⟩⟩

/-! ## Bit operations -/

section
variable (y z : BitVec 3) (b2 : Byte) (s : State)

/-- The second bytes `01yyyzzz` are BIT (R178, R283). -/
theorem exec_bitOpnd : exec (decodeInstr 0xCB#8 (1#2 ++ y ++ z) b2) s = bitOpnd y.toFin (opnd8Of z) s := by
  cases y using field3_cases <;> cases z using field3_cases <;> rfl

/-- The second bytes `10yyyzzz` are RES (R178, R284). -/
theorem exec_resOpnd : exec (decodeInstr 0xCB#8 (2#2 ++ y ++ z) b2) s = resOpnd y.toFin (opnd8Of z) s := by
  cases y using field3_cases <;> cases z using field3_cases <;> rfl

/-- The second bytes `11yyyzzz` are SET (R178, R285). -/
theorem exec_setOpnd : exec (decodeInstr 0xCB#8 (3#2 ++ y ++ z) b2) s = setOpnd y.toFin (opnd8Of z) s := by
  cases y using field3_cases <;> cases z using field3_cases <;> rfl

/-- BIT reads its operand and writes F, with Cy kept (R283). -/
theorem bitOpnd_eq :
    bitOpnd y.toFin (opnd8Of z) s = .next (costing (if z = 6#3 then 12 else 8)
      (withF (afterOperand s z) (fByte (!(operand s z).getLsbD y.toNat) false true (flagC s)))) := by
  rw [bitOpnd, readOpnd8_opnd8Of]
  dsimp only
  rw [bitFlags, writeFlags_keepC, flagC_afterOperand, opndCost_opnd8Of]
  rfl

/-- An operand read and then written, and no flag: the end of RES and SET (R284, R285). -/
theorem done_putOperand (v : Byte) :
    done (opndCost 8 16 (opnd8Of z)) (writeOpnd8 (afterOperand s z) v (opnd8Of z))
      = .next (costing (if z = 6#3 then 16 else 8) (putOperand (afterOperand s z) z v)) := by
  rw [← putOperand_eq, opndCost_opnd8Of]
  rfl

/-- RES clears the bit (R284). -/
theorem resOpnd_eq :
    resOpnd y.toFin (opnd8Of z) s = .next (costing (if z = 6#3 then 16 else 8)
      (putOperand (afterOperand s z) z (operand s z &&& ~~~(1#8 <<< y.toNat)))) := by
  rw [resOpnd, readOpnd8_opnd8Of]
  exact done_putOperand z s _

/-- SET sets the bit (R285). -/
theorem setOpnd_eq :
    setOpnd y.toFin (opnd8Of z) s = .next (costing (if z = 6#3 then 16 else 8)
      (putOperand (afterOperand s z) z (operand s z ||| (1#8 <<< y.toNat)))) := by
  rw [setOpnd, readOpnd8_opnd8Of]
  exact done_putOperand z s _

end

/-- Settles O18: each format runs its operation, and each operation writes what its rule says. -/
theorem bitOperations : Obligations.BitOperations := by
  intro y z b2 s
  exact ⟨rfl, (exec_bitOpnd y z b2 s).trans (bitOpnd_eq y z s), (exec_resOpnd y z b2 s).trans (resOpnd_eq y z s),
    (exec_setOpnd y z b2 s).trans (setOpnd_eq y z s)⟩

end Sys2Proof.Machine
end

section
/-! SUPPORT. Control transfers (O19, O20): which operation of Machine/Control.lean the opcode bytes of each format run, and what
each operation answers in the terms of the statements. -/

namespace Sys2Proof.Machine

open Sys2Proof.Claims

/-- The condition of the field `cc` is the one that the field selects (R174, R300). -/
theorem holds_eq (s : State) (cc : BitVec 2) : holds s cc = condHolds s (condOf cc) := by
  cases cc using field2_cases <;> rfl

/-! ## Formats -/

section
variable (cc : BitVec 2) (y : BitVec 3) (b1 b2 : Byte) (s : State)

/-- The opcodes `110cc010` are `JP cc,a16` (R302). -/
theorem exec_jumpIf : exec (decodeInstr (6#3 ++ cc ++ 2#3) b1 b2) s = jumpIf (condOf cc) (mkWord b2 b1) s := by
  cases cc using field2_cases <;> rfl

/-- The opcodes `001cc000` are `JR cc,e8` (R305). -/
theorem exec_jumpRelativeIf : exec (decodeInstr (1#3 ++ cc ++ 0#3) b1 b2) s = jumpRelativeIf (condOf cc) b1 s := by
  cases cc using field2_cases <;> rfl

/-- The opcodes `110cc100` are `CALL cc,a16` (R307). -/
theorem exec_callIf : exec (decodeInstr (6#3 ++ cc ++ 4#3) b1 b2) s = callIf (condOf cc) (mkWord b2 b1) s := by
  cases cc using field2_cases <;> rfl

/-- The opcodes `110cc000` are `RET cc` (R309). -/
theorem exec_retIf : exec (decodeInstr (6#3 ++ cc ++ 0#3) b1 b2) s = retIf (condOf cc) s := by
  cases cc using field2_cases <;> rfl

/-- The opcodes `11yyy111` are RST, which calls the address `8 * y` (R311). -/
theorem exec_rst : exec (decodeInstr (3#2 ++ y ++ 7#3) b1 b2) s = call (BitVec.ofNat 16 (8 * y.toNat)) 16 s := by
  cases y using field3_cases <;> rfl

end

theorem instrLength_jumpIf (cc : BitVec 2) : instrLength (6#3 ++ cc ++ 2#3) = 3 := by
  revert cc; decide

theorem instrLength_jumpRelativeIf (cc : BitVec 2) : instrLength (1#3 ++ cc ++ 0#3) = 2 := by
  revert cc; decide

theorem instrLength_callIf (cc : BitVec 2) : instrLength (6#3 ++ cc ++ 4#3) = 3 := by
  revert cc; decide

theorem instrLength_retIf (cc : BitVec 2) : instrLength (6#3 ++ cc ++ 0#3) = 1 := by
  revert cc; decide

theorem instrLength_rst (y : BitVec 3) : instrLength (3#2 ++ y ++ 7#3) = 1 := by
  revert y; decide

/-! ## Jumps -/

/-- A jump writes PC (R301, R303, R304). -/
theorem jump_eq (a : Word) (n : Nat) (s : State) :
    jump a n s = .next (costing n { s with regs := { s.regs with pc := a } }) := rfl

/-- `JP cc,a16` by the statements' condition (R302). -/
theorem jumpIf_condOf (cc : BitVec 2) (a : Word) (s : State) :
    jumpIf (condOf cc) a s = if holds s cc = true then jump a 16 s else .next (costing 12 s) := by
  rw [holds_eq]
  rfl

/-- `JR cc,e8` by the statements' condition and displacement (R305). -/
theorem jumpRelativeIf_condOf (cc : BitVec 2) (e : Byte) (s : State) :
    jumpRelativeIf (condOf cc) e s
      = if holds s cc = true then jump (displaced s.regs.pc e) 12 s else .next (costing 8 s) := by
  rw [holds_eq, displaced_eq]
  rfl

/-- Settles O19: each format runs its jump, and a conditional one jumps where the statements' condition holds. -/
theorem jumps : Obligations.Jumps := by
  intro cc b1 b2 s
  simp only [← jump_eq]
  refine ⟨⟨rfl, rfl⟩, ⟨instrLength_jumpIf cc, (exec_jumpIf cc b1 b2 s).trans (jumpIf_condOf cc _ s)⟩, ⟨rfl, rfl⟩, ⟨rfl, ?_⟩,
    instrLength_jumpRelativeIf cc, (exec_jumpRelativeIf cc b1 b2 s).trans (jumpRelativeIf_condOf cc b1 s)⟩
  rw [displaced_eq]
  rfl

/-! ## Calls and returns -/

/-- A call pushes PC, then writes it (R306, R311). -/
theorem call_eq (a : Word) (n : Nat) (s : State) :
    call a n s
      = .next (costing n { pushed s s.regs.pc with regs := { (pushed s s.regs.pc).regs with pc := a } }) := by
  rw [pushed_eq]
  rfl

/-- `CALL cc,a16` by the statements' condition (R307). -/
theorem callIf_condOf (cc : BitVec 2) (a : Word) (s : State) :
    callIf (condOf cc) a s = if holds s cc = true then call a 24 s else .next (costing 12 s) := by
  rw [holds_eq]
  rfl

/-- A return writes PC with the word popped (R308). -/
theorem ret_eq (n : Nat) (s : State) :
    ret n s = .next (costing n { popped s with regs := { (popped s).regs with pc := popWord s } }) := by
  rw [ret, pop16_eq_popped]
  rfl

/-- `RET cc` by the statements' condition (R309). -/
theorem retIf_condOf (cc : BitVec 2) (s : State) :
    retIf (condOf cc) s = if holds s cc = true then ret 20 s else .next (costing 8 s) := by
  rw [holds_eq]
  rfl

/-- RETI's return also sets IME and clears the scheduled enable (R310). -/
theorem returnFromInterrupt_eq (s : State) :
    returnFromInterrupt s
      = { popped s with regs := { (popped s).regs with pc := popWord s }, ime := true, eiDelay := 0 } := by
  rw [returnFromInterrupt, pop16_eq_popped]
  rfl

/-- Settles O20: each format runs its call or return, and a conditional one does where the statements' condition holds. -/
theorem callsAndReturns : Obligations.CallsAndReturns := by
  intro cc y b1 b2 s
  simp only [← call_eq, ← ret_eq, ← returnFromInterrupt_eq]
  exact ⟨⟨rfl, rfl⟩, ⟨instrLength_callIf cc, (exec_callIf cc b1 b2 s).trans (callIf_condOf cc _ s)⟩, ⟨rfl, rfl⟩,
    ⟨instrLength_retIf cc, (exec_retIf cc b1 b2 s).trans (retIf_condOf cc s)⟩, ⟨rfl, rfl⟩,
    instrLength_rst y, exec_rst y b1 b2 s⟩

end Sys2Proof.Machine
end

section
/-! SUPPORT. Instruction fetch and the system instructions (O21, O27, O29, O30, O32, O33): which bytes a fetch takes with and
without the HALT bug, what a step of each run state is, and what HALT, STOP, DI and EI answer in the terms of the statements. -/

namespace Sys2Proof

/-- The decoder looks at no byte past the instruction's length (R183). -/
theorem decodeInstr_take (op b1 b2 : Byte) :
    decodeInstr op (([b1, b2].take (instrLength op - 1)).getD 0 0#8) (([b1, b2].take (instrLength op - 1)).getD 1 0#8)
      = decodeInstr op b1 b2 := by
  apply encode_injective
  rw [encode_decodeInstr, encode_decodeInstr]
  have hpos := instrLength_pos op
  have hle := instrLength_le op
  interval_cases instrLength op <;> rfl

/-- Three bytes always decode: the first instruction is their table entry, as long as the first byte says. -/
theorem decode_three {op b1 b2 : Byte} {i : Instr} {rest : List Byte} (h : decode [op, b1, b2] = .ok (i, rest)) :
    i = decodeInstr op b1 b2 ∧ (encode i).length = instrLength op := by
  rw [decode_of_le (instrLength_le op)] at h
  obtain ⟨rfl, -⟩ := Prod.mk.inj (Except.ok.inj h)
  exact ⟨rfl, by rw [length_encode, Machine.opcode_decodeInstr]⟩

namespace Machine

open Sys2Proof.Claims

/-! ## Fetch -/

/-- A bus read changes the read of no other address (R103, R481). -/
theorem memRead_afterRead_of_ne {a b : Word} (h : b ≠ a) (s : State) : memRead (afterRead s a) b = memRead s b := by
  by_cases hb : b = 0xFF00#16
  · rw [afterRead_of_ne (fun ha => h (hb.trans ha.symm))]
  · exact memRead_afterRead hb s a

/-- At most two bytes fetched with no HALT bug pending, the second of them not at P1: they are read one after the other. -/
theorem fetchBytes_eq {s : State} (h : s.haltBugPending = false) {n : Nat} (hn : n ≤ 2)
    (hp : n = 2 → s.regs.pc + 1#16 ≠ 0xFF00#16) :
    fetchBytes n s = ([memRead s s.regs.pc, memRead s (s.regs.pc + 1#16)].take n,
      if n = 0 then s else setPC (afterRead s s.regs.pc) (s.regs.pc + BitVec.ofNat 16 n)) := by
  have one : fetchByte s = (memRead s s.regs.pc, setPC (afterRead s s.regs.pc) (s.regs.pc + 1#16)) := fetchByte_eq h
  interval_cases n
  · rfl
  · simp [fetchBytes, one]
  · have hpc : s.regs.pc + 1#16 + 1#16 = s.regs.pc + 2#16 := by bv_omega
    have two : fetchByte (setPC (afterRead s s.regs.pc) (s.regs.pc + 1#16))
        = (memRead s (s.regs.pc + 1#16), setPC (afterRead s s.regs.pc) (s.regs.pc + 2#16)) := by
      rw [fetchByte_eq (by simpa using h)]
      simp [memRead_afterRead (hp rfl), afterRead_of_ne (hp rfl), hpc]
    simp [fetchBytes, one, two]

/-- The unusable region, which lies before P1, reads as a one-byte opcode (R114, R183): no longer instruction takes its second
or third byte from P1. -/
theorem not_p1_of_long {s : State} {a : Word} (h : 1 < instrLength (memRead s a)) :
    a + 1#16 ≠ 0xFF00#16 ∧ a + 2#16 ≠ 0xFF00#16 := by
  have usable : ¬(0xFEA0 ≤ a.toNat ∧ a.toNat ≤ 0xFEFF) := by
    rintro ⟨h1, h2⟩
    rw [(unusable_access h1 h2 s 0#8).1] at h
    exact absurd h (by decide)
  constructor <;> bv_omega

@[simp] theorem memRead_haltBugPending_update (s : State) (b : Bool) (a : Word) :
    memRead { s with haltBugPending := b } a = memRead s a := rfl

@[simp] theorem afterRead_haltBugPending_update (s : State) (b : Bool) (a : Word) :
    afterRead { s with haltBugPending := b } a = { afterRead s a with haltBugPending := b } := by
  unfold afterRead; split <;> rfl

@[simp] theorem memRead_instrAddr_update (s : State) (w a : Word) :
    memRead { s with instrAddr := w } a = memRead s a := rfl

section
variable {s s1 : State} {op : Byte} {pc : Word}

/-- `Decode()` after its first byte (R185): the opcode decides how many of the next two bytes are fetched. -/
theorem fetchInstr_of_opcode (h1 : fetchByte s = (op, s1)) (hpc : s1.regs.pc = pc) (hb : s1.haltBugPending = false)
    (hp : 1 < instrLength op → pc + 1#16 ≠ 0xFF00#16) :
    fetchInstr s = (decodeInstr op (memRead s1 pc) (memRead s1 (pc + 1#16)),
      if instrLength op = 1 then s1 else setPC (afterRead s1 pc) (pc + BitVec.ofNat 16 (instrLength op - 1))) := by
  subst hpc
  have hpos := instrLength_pos op
  have hle := instrLength_le op
  have hone : instrLength op - 1 = 0 ↔ instrLength op = 1 := by omega
  rw [fetchInstr, h1]
  dsimp only
  rw [fetchBytes_eq hb (by omega) fun hn => hp (by omega)]
  simp only [decodeInstr_take, hone]

/-- An instruction fetched with no HALT bug pending (R185, R405): the three bytes from PC on decide it, PC ends past it, and
only its opcode can have been read from P1. -/
theorem fetchInstr_eq (hop : memRead s pc = op) (hpc : s.regs.pc = pc) (hb : s.haltBugPending = false) :
    fetchInstr s = (decodeInstr op (memRead s (pc + 1#16)) (memRead s (pc + 2#16)),
      setPC (afterRead s pc) (pc + BitVec.ofNat 16 (instrLength op))) := by
  subst hop hpc
  have hsum : s.regs.pc + 1#16 + 1#16 = s.regs.pc + 2#16 := by bv_omega
  have h1 : s.regs.pc + 1#16 ≠ s.regs.pc := by bv_omega
  have h2 : s.regs.pc + 2#16 ≠ s.regs.pc := by bv_omega
  rw [fetchInstr_of_opcode (fetchByte_eq hb) rfl (by simpa using hb) fun hl => by simpa [hsum] using (not_p1_of_long hl).2]
  simp only [setPC_regs, memRead_setPC, hsum, memRead_afterRead_of_ne h1, memRead_afterRead_of_ne h2]
  congr 1
  split
  next hl => rw [hl]
  next hl =>
    have hpos := instrLength_pos (memRead s s.regs.pc)
    have hlong : 1 < instrLength (memRead s s.regs.pc) := by omega
    have hlen : s.regs.pc + 1#16 + BitVec.ofNat 16 (instrLength (memRead s s.regs.pc) - 1)
        = s.regs.pc + BitVec.ofNat 16 (instrLength (memRead s s.regs.pc)) := by
      rw [BitVec.add_assoc, ← BitVec.ofNat_add, Nat.add_sub_cancel' hpos]
    rw [afterRead_of_ne (not_p1_of_long hlong).1, setPC_setPC, hlen]

/-- An instruction fetched with the HALT bug pending (R322, R405): the byte at PC is read as the opcode and, where there is
one, again as the first immediate byte, and PC ends one short. -/
theorem fetchInstr_haltBug (hop : memRead s pc = op) (hpc : s.regs.pc = pc) (hb : s.haltBugPending = true) :
    fetchInstr s = (decodeInstr op (memRead (afterRead s pc) pc) (memRead s (pc + 1#16)),
      setPC { (if instrLength op = 1 then afterRead s pc else afterRead (afterRead s pc) pc) with haltBugPending := false }
        (pc + BitVec.ofNat 16 (instrLength op - 1))) := by
  subst hop hpc
  have h1 : s.regs.pc + 1#16 ≠ s.regs.pc := by bv_omega
  rw [fetchInstr_of_opcode (fetchByte_haltBug hb) (congrArg Regs.pc (afterRead_regs s _)) rfl
    fun hl => (not_p1_of_long hl).1]
  simp only [memRead_haltBugPending_update, afterRead_haltBugPending_update, memRead_afterRead_of_ne h1]
  congr 1
  split
  next hl => rw [hl]; simp [setPC]
  next hl => rfl

/-- The instruction at PC executed, PC past it (R400). -/
theorem runInstruction_eq (hop : memRead s pc = op) (hpc : s.regs.pc = pc) (hb : s.haltBugPending = false) :
    runInstruction s = exec (decodeInstr op (memRead s (pc + 1#16)) (memRead s (pc + 2#16)))
      { afterRead s pc with
        instrAddr := pc
        regs := { s.regs with pc := pc + BitVec.ofNat 16 (instrLength op) } } := by
  have hf := fetchInstr_eq (s := { s with instrAddr := pc }) hop hpc hb
  simp only [runInstruction, hpc, hf, memRead_instrAddr_update, afterRead_instrAddr_update]
  simp [setPC]

/-- The instruction that the HALT bug makes of the byte at PC executed, PC one short of its end (R322, R400). -/
theorem runInstruction_haltBug (hop : memRead s pc = op) (hpc : s.regs.pc = pc) (hb : s.haltBugPending = true) :
    runInstruction s = exec (decodeInstr op (memRead (afterRead s pc) pc) (memRead s (pc + 1#16)))
      { (if instrLength op = 1 then afterRead s pc else afterRead (afterRead s pc) pc) with
        haltBugPending := false
        instrAddr := pc
        regs := { s.regs with pc := pc + BitVec.ofNat 16 (instrLength op - 1) } } := by
  have hf := fetchInstr_haltBug (s := { s with instrAddr := pc }) hop hpc hb
  simp only [runInstruction, hpc, hf, memRead_instrAddr_update, afterRead_instrAddr_update]
  split <;> simp [setPC]

end

/-! ## The running step -/

/-- A running step takes an interrupt or runs an instruction (R400). -/
theorem step_of_running {s : State} (hr : s.runState = .running) : step s = afterCpu (runOrDispatch (beginStep s)) := by
  simp only [step, hr, cpuStep, beginStep_runState]

/-- With no interrupt to take it runs an instruction (R413). -/
theorem step_of_untaken {s : State} (hr : s.runState = .running) (hi : s.ime = false ∨ pendingLines s = 0#5) :
    step s = afterCpu (runInstruction (beginStep s)) := by
  have untaken : ¬(s.ime = true ∧ pendingLines s ≠ 0#5) :=
    fun ⟨hime, hp⟩ => hi.elim (fun h => ne_true_of_eq_false h hime) hp
  rw [step_of_running hr, runOrDispatch, beginStep_ime, pendingLines_beginStep, if_neg untaken]

/-- The step of a running machine with no HALT bug pending and no interrupt to take, by the three bytes from PC on. -/
theorem step_of_fetch {s : State} (hr : s.runState = .running) (hb : s.haltBugPending = false)
    (hi : s.ime = false ∨ pendingLines s = 0#5) :
    step s = afterCpu (exec
      (decodeInstr (memRead s s.regs.pc) (memRead s (s.regs.pc + 1#16)) (memRead s (s.regs.pc + 2#16)))
      { afterRead (beginStep s) s.regs.pc with
        instrAddr := s.regs.pc
        regs := { s.regs with pc := s.regs.pc + BitVec.ofNat 16 (instrLength (memRead s s.regs.pc)) } }) := by
  rw [step_of_untaken hr hi,
    runInstruction_eq (memRead_beginStep s _) (congrArg Regs.pc (beginStep_regs s)) (by simpa using hb)]
  simp only [memRead_beginStep, beginStep_regs]

/-- The host's part of a step takes no BUTTONS answer, so the byte read next at the same address is the same (log 7). -/
theorem memRead_afterRead_beginStep (s : State) (a : Word) :
    memRead (afterRead (beginStep s) a) a = memRead (afterRead s a) a := by
  unfold afterRead
  split
  · rw [← beginStep_drawButtons, memRead_beginStep]
  · exact memRead_beginStep s a

/-- Settles O27: decoding says which bytes the fetch with the HALT bug takes, and `runInstruction_haltBug` is that fetch. -/
theorem haltBugReadsTheByteTwice : Obligations.HaltBugReadsTheByteTwice := by
  intro s i rest pc hr hb hi hd
  obtain ⟨rfl, hlen⟩ := decode_three hd
  rw [step_of_untaken hr hi,
    runInstruction_haltBug (memRead_beginStep s pc) (congrArg Regs.pc (beginStep_regs s)) (by simpa using hb)]
  simp only [memRead_beginStep, memRead_afterRead_beginStep, beginStep_regs, hlen]

/-- Settles O32: the fetched instruction raises the fatal state (O4), and a step that faults ends there. -/
theorem illegalOpcodeStep : Obligations.IllegalOpcodeStep := by
  intro s hr hb hi hop
  have fatal := fun b1 b2 t => (illegalOpcodesAreFatal (memRead s s.regs.pc) b1 b2 t).1 hop
  obtain ⟨hlen, -⟩ := fatal 0#8 0#8 s
  rw [step_of_fetch hr hb hi, (fatal _ _ _).2, hlen]
  rfl

/-! ## Halted and stopped -/

/-- The step of a woken machine is the running machine's: the host's part does not look at the run state (R321, R323). -/
theorem step_woken (s : State) :
    step { s with runState := .running } = afterCpu (runOrDispatch { beginStep s with runState := .running }) := by
  rw [step_of_running rfl, beginStep_withRunState]

/-- A step spent idle is the end of a step of 4 cycles (R401). -/
theorem afterCpu_idleStep {s : State} (h : isFaulted s = false) :
    afterCpu (idleStep s) = .next (finishStep (costing 4 s)) := by
  have awake : isFaulted (costing 4 s) ≠ true := ne_true_of_eq_false h
  exact if_neg awake

/-- A halted step is idle until a line is enabled and pending, then the machine runs (R321, R400). -/
theorem step_of_halted {s : State} (hr : s.runState = .halted) :
    step s = afterCpu (if pendingLines s = 0#5 then idleStep (beginStep s)
      else runOrDispatch { beginStep s with runState := .running }) := by
  simp only [step, hr, cpuStep, beginStep_runState, pendingLines_beginStep]

/-- A stopped step asks BUTTONS; it is idle until a button is pressed, then the machine runs (R323, R400, R481). -/
theorem step_of_stopped {s : State} (hr : s.runState = .stopped) :
    step s = afterCpu (if anyPressed s.host.buttons.now = true
      then runOrDispatch { drawButtons (beginStep s) with runState := .running }
      else idleStep (drawButtons (beginStep s))) := by
  simp only [step, hr, cpuStep, beginStep_runState, beginStep_buttons]

/-- Settles O29: the two branches of the halted step. -/
theorem haltedStep : Obligations.HaltedStep := by
  intro s hr
  refine ⟨fun (hidle : pendingLines s = 0#5) => ?_, fun (hwake : pendingLines s ≠ 0#5) => ?_⟩
  · rw [step_of_halted hr, if_pos hidle, afterCpu_idleStep (by simp [isFaulted, hr])]
  · rw [step_of_halted hr, if_neg hwake, step_woken]

/-- A button is pressed when one of the eight lines is low (R323). -/
theorem anyPressed_iff (b : Buttons) : anyPressed b = true ↔ b ≠ ⟨0xF#4, 0xF#4⟩ := by
  obtain ⟨dirs, acts⟩ := b
  simp [anyPressed, imp_iff_not_or]

/-- Settles O30: the two branches of the stopped step. -/
theorem stoppedStep : Obligations.StoppedStep := by
  intro s hr
  have pressed := anyPressed_iff s.host.buttons.now
  refine ⟨fun hidle => ?_, fun hwake => ?_⟩
  · have none : ¬anyPressed s.host.buttons.now = true := fun h => pressed.mp h hidle
    rw [step_of_stopped hr, if_neg none, afterCpu_idleStep (by simp [isFaulted, hr])]
  · rw [step_of_stopped hr, if_pos (pressed.mpr hwake), step_woken, beginStep_drawButtons]

/-! ## The system instructions -/

/-- The statements' test for a pending line, IE masked with IF as a byte, is the model's on five bits (R32, R400). -/
theorem pendingLines_eq_zero_iff (s : State) : pendingLines s = 0#5 ↔ s.ie &&& (0#3 ++ s.iflag) = 0#8 := by
  have widened : s.ie &&& (0#3 ++ s.iflag) = 0#3 ++ pendingLines s := by
    apply BitVec.eq_of_getLsbD_eq
    intro k hk
    rw [BitVec.getLsbD_and, BitVec.getLsbD_append, BitVec.getLsbD_append]
    by_cases h5 : k < 5 <;> simp [pendingLines, h5]
  rw [widened]
  constructor
  · intro h
    rw [h]
    rfl
  · intro h
    have low := congrArg (BitVec.extractLsb' 0 5) h
    rwa [BitVec.extractLsb'_append_eq_right] at low

/-- Settles O21: each opcode runs its operation; HALT's three outcomes are the branches of `halt`. -/
theorem systemInstructions : Obligations.SystemInstructions := by
  intro b1 b2 s pending
  have hpending : pendingLines s = 0#5 ↔ ¬pending := by rw [pendingLines_eq_zero_iff, not_not]
  have blocked : s.ime = false → pending → ¬(s.ime = true ∨ pendingLines s = 0#5) := fun hime hp =>
    not_or.mpr ⟨ne_true_of_eq_false hime, fun h => hpending.mp h hp⟩
  have halts : exec (decodeInstr 0x76#8 b1 b2) s = .next (costing 4 (halt s)) := rfl
  refine ⟨⟨rfl, rfl⟩, ⟨rfl, fun h => ?halt, fun hime hp hbug => ?bug, fun hime hp hbug => ?nop⟩, ⟨rfl, rfl⟩, ⟨rfl, rfl⟩,
    rfl, rfl⟩
  case halt => rw [halts, halt, if_pos (h.imp_right hpending.mpr)]
  case bug => rw [halts, halt, if_neg (blocked hime hp), if_pos hbug]
  case nop => rw [halts, halt, if_neg (blocked hime hp), if_neg (ne_true_of_eq_false hbug)]

/-! ## The delayed enable -/

/-- The end of a step keeps the run state. -/
@[simp] theorem finishStep_runState (s : State) : (finishStep s).runState = s.runState := by
  have h := finishStep_devicesOnly s
  generalize finishStep s = t at h
  cases h
  rfl

/-- A scheduled enable counts one step down. -/
theorem endOfStep_two {s : State} (h : s.eiDelay = 2) : endOfStep s = { s with eiDelay := 1 } := by
  simp [endOfStep, h]

/-- The last step of a scheduled enable sets IME. -/
theorem endOfStep_one {s : State} (h : s.eiDelay = 1) : endOfStep s = { s with eiDelay := 0, ime := true } := by
  simp [endOfStep, h]

/-- After an instruction that leaves the machine running comes the end of the step (R400). -/
theorem afterCpu_of_running {s : State} (hr : s.runState = .running) : afterCpu (.next s) = .next (finishStep s) := by
  simp [afterCpu, isFaulted, hr]

/-- EI schedules the enable two ends of a step away (R325), and the first of them is its own. -/
theorem afterCpu_ei {s : State} (hr : s.runState = .running) (hime : s.ime = false) (hd : s.eiDelay = 0) :
    ∃ t, afterCpu (exec .ei s) = .next t ∧ t.ime = false ∧ t.eiDelay = 1 ∧ t.runState = .running := by
  have hei : exec .ei s = .next (costing 4 { s with eiDelay := 2 }) := congrArg (done 4) (if_pos ⟨hime, hd⟩)
  refine ⟨_, (congrArg afterCpu hei).trans (afterCpu_of_running hr), ?_⟩
  rw [finishStep_ime, finishStep_eiDelay, finishStep_runState, endOfStep_two rfl]
  exact ⟨hime, rfl, hr⟩

/-- An instruction that is no control instruction leaves the scheduled enable to the end of its step, which sets IME (R404). -/
theorem afterCpu_exec_enables {s : State} {i : Instr} (hr : s.runState = .running) (hd : s.eiDelay = 1)
    (hc : controlInstr i = false) :
    ∃ t, afterCpu (exec i s) = .next t ∧ t.ime = true ∧ t.eiDelay = 0 ∧ t.runState = .running := by
  obtain ⟨u, hu⟩ := exec_next i s
  have hk := exec_controlState hu hc
  simp only [controlState, Prod.mk.injEq] at hk
  obtain ⟨-, hdelay, hrun, -⟩ := hk
  rw [hu, afterCpu_of_running (hrun.trans hr)]
  refine ⟨_, rfl, ?_⟩
  rw [finishStep_ime, finishStep_eiDelay, finishStep_runState, endOfStep_one (hdelay.trans hd)]
  exact ⟨rfl, rfl, hrun.trans hr⟩

/-- Settles O33: with IME clear neither step is interrupted, and each runs its instruction. -/
theorem enableTakesEffectOneInstructionLater : Obligations.EnableTakesEffectOneInstructionLater := by
  constructor
  · intro s hr hb hime hd hop
    rw [step_of_fetch hr hb (.inl hime), hop]
    exact afterCpu_ei (by simpa using hr) (by simpa using hime) (by simpa using hd)
  · intro s i rest hr hb hime hd hdec hc
    obtain ⟨rfl, -⟩ := decode_three hdec
    rw [step_of_fetch hr hb (.inl hime)]
    exact afterCpu_exec_enables (by simpa using hr) (by simpa using hd) hc

end Machine
end Sys2Proof
end

section
/-! SUPPORT. The running step (O26, O28): the decoded instruction run, or the lowest enabled and pending line taken. -/

namespace Sys2Proof.Machine

open Sys2Proof.Claims

/-- Settles O26: decoding says which bytes the fetch takes, and `step_of_fetch` is that fetch. -/
theorem stepRunsTheDecodedInstruction : Obligations.StepRunsTheDecodedInstruction := by
  intro s i rest hr hb hi hd
  obtain ⟨rfl, hlen⟩ := decode_three hd
  rw [step_of_fetch hr hb hi, hlen]

/-! ## Taking an interrupt -/

/-- A line is pending when it is enabled and requested (R400). -/
theorem getLsbD_pendingLines (s : State) {j : Nat} (hj : j < 5) :
    (pendingLines s).getLsbD j = (s.ie.getLsbD j && s.iflag.getLsbD j) := by
  simp [pendingLines, hj]

/-- `lowestLine` is the lowest bit set (R414). -/
theorem lowestLine_eq {p : BitVec 5} {k : Nat} (hk : k < 5) (hset : p.getLsbD k = true)
    (hlow : ∀ j, j < k → p.getLsbD j = false) : lowestLine p = k := by
  unfold lowestLine
  interval_cases k <;> simp only [hset, hlow 0, hlow 1, hlow 2, hlow 3, Nat.reduceLT, Bool.false_eq_true, if_true, if_false]

/-- A running step with IME set and a line pending takes the interrupt (R413). -/
theorem step_of_taken {s : State} (hr : s.runState = .running) (hime : s.ime = true) (hp : pendingLines s ≠ 0#5) :
    step s = .next (finishStep (dispatch (beginStep s))) := by
  have running : (dispatch (beginStep s)).runState = .running := by simp [dispatch, hr]
  rw [step_of_running hr, runOrDispatch, beginStep_ime, pendingLines_beginStep, if_pos ⟨hime, hp⟩,
    afterCpu_of_running running]

/-- Settles O28: the statement's line is the lowest one, and `dispatch` pushes as the statements' push does. -/
theorem dispatchTakesTheLowestLine : Obligations.DispatchTakesTheLowestLine := by
  intro s k hr hime hk hie hif hlow ret p
  have hset : (pendingLines s).getLsbD k = true := by rw [getLsbD_pendingLines s hk, hie, hif]; rfl
  have hline : lowestLine (pendingLines s) = k := lowestLine_eq hk hset fun j hj => by
    rw [getLsbD_pendingLines s (hj.trans hk)]
    simpa using hlow j hj
  have hp : pendingLines s ≠ 0#5 := fun h0 => by simp [h0] at hset
  rw [step_of_taken hr hime hp, dispatch, pendingLines_beginStep, hline, beginStep_haltBugPending]
  simp only [p, ret, pushed_eq, beginStep_regs]

end Sys2Proof.Machine
end

section
/-! SUPPORT. Pending lines (O39): no device clears one, and of an instruction's actions only a store to IF can. -/

namespace Sys2Proof.Machine

/-! ## What keeps the pending lines -/

/-- Every line pending in `s` is pending in `t`. -/
def LinesKept (s t : State) : Prop := ∀ k : Nat, s.iflag.getLsbD k = true → t.iflag.getLsbD k = true

namespace LinesKept

variable {s t : State}

/-- A change of anything else. -/
theorem of_eq (h : t.iflag = s.iflag) : LinesKept s t := fun _ hk => h ▸ hk

theorem congr {u : State} (h : LinesKept s t) (hu : u.iflag = t.iflag) : LinesKept s u := fun k hk => hu ▸ h k hk

/-- A request only adds a line (R411). -/
theorem request (l : Line) (h : LinesKept s t) : LinesKept s (request l t) := fun k hk => by simp [h k hk]

theorem requestStat (b : Nat) (h : LinesKept s t) : LinesKept s (requestStat b t) := by
  unfold Machine.requestStat
  split
  exacts [h.request _, h]

theorem enterMode (m : BitVec 2) (h : LinesKept s t) : LinesKept s (enterMode m t) := by
  unfold Machine.enterMode
  split
  · exact .requestStat 3 (h.congr rfl)
  · exact .requestStat 4 ((h.request .vblank).congr rfl)
  · exact h.requestStat 5
  · exact h

theorem evaluateMode (h : LinesKept s t) : LinesKept s (evaluateMode t) := by
  unfold Machine.evaluateMode
  dsimp only
  split
  exacts [h, .enterMode _ (h.congr rfl)]

theorem coincidence (h : LinesKept s t) : LinesKept s (coincidence t) :=
  iteInduction (motive := LinesKept s) (fun _ => .request .stat (h.congr rfl)) (fun _ => h.congr rfl)

theorem displayStep (n : Nat) (h : LinesKept s t) : LinesKept s (displayStep n t) := by
  unfold Machine.displayStep
  split
  exacts [.coincidence (.evaluateMode (h.congr rfl)), h.congr rfl]

theorem timaTicks (n : Nat) (h : LinesKept s t) : LinesKept s (timaTicks n t) := by
  have tick : ∀ u, LinesKept s u → LinesKept s (timaTick u) := fun u hu => by
    unfold timaTick
    split
    exacts [.request .timer (hu.congr rfl), hu.congr rfl]
  induction n generalizing t with
  | zero => exact h
  | succ n ih => exact ih (tick _ h)

theorem timerStep (n : Nat) (h : LinesKept s t) : LinesKept s (timerStep n t) := by
  unfold Machine.timerStep counterStep
  split
  exacts [.timaTicks _ (h.congr rfl), h.congr rfl]

theorem finishTransfer (b : Byte) (h : LinesKept s t) : LinesKept s (finishTransfer b t) :=
  .request .serial (h.congr rfl)

theorem passiveExchange (a : PeerAnswer) (h : LinesKept s t) : LinesKept s (passiveExchange a t) := by
  unfold Machine.passiveExchange
  split
  exacts [.finishTransfer _ (h.congr rfl), h, h]

theorem activeExchange (a : PeerAnswer) (h : LinesKept s t) : LinesKept s (activeExchange a t) := by
  unfold Machine.activeExchange
  split
  exacts [.finishTransfer _ (h.congr rfl), h.finishTransfer _]

theorem localTransfer (a : PeerAnswer) (h : LinesKept s t) : LinesKept s (localTransfer a t) := by
  unfold Machine.localTransfer
  split
  · split
    exacts [.activeExchange a (h.congr rfl), h.congr rfl]
  · exact h

theorem serialTicks (n : Nat) (h : LinesKept s t) : LinesKept s (serialTicks n t) := by
  induction n generalizing t with
  | zero => exact h
  | succ n ih => exact ih (.localTransfer _ (.passiveExchange _ (h.congr rfl)))

theorem serialStep (n : Nat) (h : LinesKept s t) : LinesKept s (serialStep n t) :=
  .serialTicks _ (h.congr rfl)

theorem sampleInput (h : LinesKept s t) : LinesKept s (sampleInput t) := by
  unfold Machine.sampleInput
  dsimp only
  split
  exacts [.congr (.request (t := drawButtons t) .input (h.congr rfl)) rfl, h.congr rfl]

theorem endOfStep (h : LinesKept s t) : LinesKept s (endOfStep t) := by
  obtain ⟨_, _, he⟩ := endOfStep_frame t
  exact h.congr (by rw [he])

/-- The end of a step clears no line: the devices and the input sampling only request (R402, R411, R480). -/
theorem finishStep (h : LinesKept s t) : LinesKept s (finishStep t) :=
  ((((h.endOfStep.timerStep _).displayStep _).congr (u := soundStep t.cycles _) rfl).serialStep _).sampleInput

end LinesKept

/-! ## Where an instruction stores -/

/-- Between `s` and `t` data and control state change and bus writes are made, each to one of `addrs`. -/
inductive StoresAt (addrs : List Word) (s : State) : State → Prop where
  | refl : StoresAt addrs s s
  | data {t u : State} : StoresAt addrs s t → DataOnly t u → StoresAt addrs s u
  | control {t u : State} : StoresAt addrs s t → ControlOnly t u → StoresAt addrs s u
  | write {t : State} {a : Word} (ha : a ∈ addrs) (v : Byte) : StoresAt addrs s t → StoresAt addrs s (memWrite t a v)

/-- The next state that a meaning answers is reached by stores at the addresses. -/
def StoresTo (addrs : List Word) (s : State) : Result → Prop
  | .next t => StoresAt addrs s t
  | .fault _ => False
  | .refused _ => False

namespace StoresAt

variable {addrs : List Word} {s t : State}

theorem writeOpnd8 (h : StoresAt addrs s t) (v : Byte) (o : Opnd8) (ha : ∀ a ∈ opndAddrs t o, a ∈ addrs) :
    StoresAt addrs s (writeOpnd8 t v o) := by
  cases o with
  | reg r => exact h.data (.setReg8 t v r)
  | mHL => exact h.write (ha _ (by simp [opndAddrs])) v

theorem push16 (h : StoresAt addrs s t) (ha : ∀ a ∈ pushAddrs t, a ∈ addrs) (w : Word) : StoresAt addrs s (push16 t w) := by
  simp only [pushAddrs, List.forall_mem_cons] at ha
  obtain ⟨high, low, -⟩ := ha
  rw [push16_eq]
  exact (((h.data (.setSP t _)).write high _).data (.setSP _ _)).write low _

theorem done (h : StoresAt addrs s t) {n : Nat} (hn : n ≤ 24) : StoresTo addrs s (done n t) := h.data (.cost t hn)

theorem call (h : StoresAt addrs s t) (ha : ∀ a ∈ pushAddrs t, a ∈ addrs) (a : Word) {n : Nat} (hn : n ≤ 24) :
    StoresTo addrs s (call a n t) := ((h.push16 ha _).data (.setPC _ a)).done hn

end StoresAt

/-- A path without stores makes none, wherever. -/
theorem ExecPath.storesAt {stores controls : Prop} {s t : State} (h : ExecPath stores controls s t) (hs : ¬stores)
    (addrs : List Word) : StoresAt addrs s t := by
  induction h with
  | refl => exact .refl
  | data _ hd ih => exact ih.data hd
  | write hs' => exact absurd hs' hs
  | control _ _ hc ih => exact ih.control hc

/-- An instruction stores nowhere but at its store addresses. -/
theorem exec_storesAt (s : State) (i : Instr) : StoresTo (storeAddrs s i) s (exec i s) := by
  have start : StoresAt (storeAddrs s i) s s := .refl
  have nowhere : storeAddrs s i = [] → StoresTo (storeAddrs s i) s (exec i s) := fun hs => by
    obtain ⟨t, ht⟩ := exec_next i s
    rw [ht]
    exact (exec_path_of_next ht).storesAt (not_not.mpr hs) _
  have modify : ∀ (o : Opnd8) (v : Byte), storeAddrs s i = opndAddrs s o →
      StoresAt (storeAddrs s i) s (writeOpnd8 (readOpnd8 s o).2 v o) := fun o v hs =>
    (start.data (.readOpnd8 s o)).writeOpnd8 v o (by simp [opndAddrs_readOpnd8, hs])
  have hshape := exec_shape s i
  generalize exec i s = r at hshape nowhere
  cases hshape with
  | loadImm o v h => exact (start.writeOpnd8 v o (by simp [h.stores])).done h.cost_le
  | storeReg r h => exact (start.write (by simp [h.stores]) _).done h.cost_le
  | storeA a n h => exact (start.write (by simp [h.stores]) _).done h.cost_le
  | storeAStep d h => exact ((start.write (by simp [h.stores]) _).data (.setHL _ _)).done h.cost_le
  | storeSP a h => exact ((start.write (by simp [h.stores]) _).write (by simp [h.stores]) _).done h.cost_le
  | pushPair q h => exact (start.push16 (by simp [h.stores]) _).done h.cost_le
  | incOpnd o h => exact ((modify o _ h.stores).data (.writeFlags _ _)).done h.cost_le
  | decOpnd o h => exact ((modify o _ h.stores).data (.writeFlags _ _)).done h.cost_le
  | shiftOpnd op o h => exact ((modify o _ h.stores).data (.writeFlags _ _)).done h.cost_le
  | resOpnd b o h => exact (modify o _ h.stores).done h.cost_le
  | setOpnd b o h => exact (modify o _ h.stores).done h.cost_le
  | call a n h => exact start.call (by simp [h.stores]) a h.cost_le
  | callIf c a h =>
    exact iteInduction (motive := StoresTo _ s) (fun hc => start.call (by simp [h.stores, hc]) a (by decide))
      (fun _ => start.done (by decide))
  | loadReg _ _ h | loadA _ _ h | loadAStep _ h | loadPair _ _ h | loadSPFromHL h | loadHLFromSP _ h | popPair _ h
  | accumulate _ _ h | accumulateOpnd _ _ h | decimalAdjust h | complementA h | setCarry h | complementCarry h | addHL _ h
  | incPair _ h | decPair _ h | addSP _ h | rotateA _ h | bitOpnd _ _ h | jump _ _ h | jumpIf _ _ h
  | jumpRelativeIf _ _ h | ret _ h | retIf _ h | nop h
  | reti _ h | halt _ h | stop _ _ h | di _ h | ei _ h | illegal _ _ _ h => exact nowhere h.stores

/-! ## Stores and the pending lines -/

/-- IF is at 0xFF0F only. -/
theorem ioRegAt_iflag {n : Nat} (h : ioRegAt n = some .iflag) : n = 0xFF0F :=
  (by decide : ∀ p ∈ ioMap, p.2 = .iflag → p.1 = 0xFF0F) _ (ioRegAt_mem h) rfl

/-- A register write changes the pending lines only at IF (R31). -/
theorem regWrite_iflag (s : State) (v : Byte) {r : IoReg} (h : r ≠ .iflag) : (regWrite s v r).iflag = s.iflag := by
  cases r
  case iflag => exact absurd rfl h
  case dma => exact dmaCopy_iflag ..
  case boot => rw [regWrite_boot]; split <;> rfl
  all_goals rfl

/-- A bus write elsewhere than at 0xFF0F leaves the pending lines alone (R31). -/
theorem memWrite_iflag {a : Word} (h : a ≠ 0xFF0F#16) (s : State) (v : Byte) : (memWrite s a v).iflag = s.iflag := by
  have control : ∀ n, (cartControlWrite s n v).iflag = s.iflag := fun n => by
    obtain ⟨_, _, hf⟩ := cartControlWrite_frame s n v
    rw [hf]
  have window : ∀ n, (cartRamWrite s n v).iflag = s.iflag := fun n => by
    obtain ⟨_, _, _, _, hf⟩ := cartRamWrite_frame s n v
    rw [hf]
  have io : (ioWrite s a.toNat v).iflag = s.iflag := by
    unfold ioWrite
    split
    · rename_i r hr
      have hne : r ≠ .iflag := fun he => h (BitVec.eq_of_toNat_eq (ioRegAt_iflag (he ▸ hr)))
      split
      exacts [rfl, regWrite_iflag s v hne]
    · split <;> rfl
  unfold memWrite
  dsimp only
  repeat' split
  exacts [control _, rfl, rfl, window _, rfl, rfl, rfl, rfl, rfl, io, rfl, rfl]

/-- Stores that avoid IF leave the pending lines alone. -/
theorem StoresAt.iflag_eq {addrs : List Word} {s t : State} (h : StoresAt addrs s t) (hif : 0xFF0F#16 ∉ addrs) :
    t.iflag = s.iflag := by
  induction h with
  | refl => rfl
  | data _ hd ih => cases hd; exact ih
  | control _ hc ih => cases hc; exact ih
  | write ha v _ ih => exact (memWrite_iflag (fun he => hif (he ▸ ha)) _ v).trans ih

/-- The state in which a running step executes the instruction fetched at PC, `n` bytes long, with no HALT bug pending. -/
def fetched (s : State) (n : Nat) : State :=
  { afterRead (beginStep s) s.regs.pc with
    instrAddr := s.regs.pc
    regs := { s.regs with pc := s.regs.pc + BitVec.ofNat 16 n } }

@[simp] theorem fetched_iflag (s : State) (n : Nat) : (fetched s n).iflag = s.iflag := by simp [fetched]

/-- Where an instruction stores does not depend on PC. -/
theorem storeAddrs_fetched (s : State) (n : Nat) (i : Instr) : storeAddrs (fetched s n) i = storeAddrs s i := rfl

/-- Settles O39: the instruction's stores avoid IF, and the end of the step only requests. -/
theorem pendingLinesStay : Obligations.PendingLinesStay := by
  intro s t i rest k hr hb hi hd hif hstep hk
  have hrun : step s = afterCpu (exec i (fetched s (encode i).length)) :=
    stepRunsTheDecodedInstruction s i rest hr hb hi hd
  have stores := exec_storesAt (fetched s (encode i).length) i
  rw [storeAddrs_fetched] at stores
  obtain ⟨u, hu⟩ := exec_next i (fetched s (encode i).length)
  rw [hu] at stores
  rw [hrun, hu] at hstep
  have kept : LinesKept s u := .of_eq ((stores.iflag_eq hif).trans (fetched_iflag ..))
  cases hf : isFaulted u <;> simp only [afterCpu, hf] at hstep <;> cases hstep
  exacts [kept.finishStep k hk, kept k hk]

end Sys2Proof.Machine
end

section
/-! SUPPORT. A display step (O40, O41, O54): which mode it enters, what it requests and delivers then, and the registers it
leaves. -/

namespace Sys2Proof.Machine

/-! ## STAT's bits -/

/-- STAT's mode bits written and read back (R59). -/
theorem stat_setMode_mode (x : Byte) (m : BitVec 2) : ((x &&& 0xFC#8) ||| m.zeroExtend 8).extractLsb' 0 2 = m := by
  revert x m; decide

/-- STAT's other bits stay when the mode is written (R59). -/
theorem stat_setMode_other (x : Byte) (m : BitVec 2) {b : Nat} (h2 : 2 ≤ b) (h8 : b < 8) :
    ((x &&& 0xFC#8) ||| m.zeroExtend 8).getLsbD b = x.getLsbD b := by
  interval_cases b <;> simp

/-- STAT's coincidence bit written (R526): the mode and the enable bits stay. -/
theorem stat_coincidence (x : Byte) (c : Bool) :
    ((x &&& 0xFB#8) ||| (if c = true then 0x04#8 else 0x00#8)).extractLsb' 0 2 = x.extractLsb' 0 2
      ∧ ((x &&& 0xFB#8) ||| (if c = true then 0x04#8 else 0x00#8)).getLsbD 2 = c
      ∧ ((x &&& 0xFB#8) ||| (if c = true then 0x04#8 else 0x00#8)).getLsbD 6 = x.getLsbD 6 := by
  revert x c; decide

/-- A write to STAT keeps the mode bits (R59). -/
theorem stat_write_mode (x v : Byte) :
    (0x80#8 ||| (v &&& 0x78#8) ||| (x &&& 0x07#8)).extractLsb' 0 2 = x.extractLsb' 0 2 := by
  have hv : (v &&& 0x78#8).extractLsb' 0 2 = 0#2 := by revert v; decide
  have hx : (x &&& 0x07#8).extractLsb' 0 2 = x.extractLsb' 0 2 := by revert x; decide
  rw [BitVec.extractLsb'_or, BitVec.extractLsb'_or, hv, hx]
  simp

/-! ## The entry of a mode -/

/-- A request of the display-status line under its enable bit `b` (R522). -/
theorem requestStat_status (b : Nat) (s : State) :
    (requestStat b s).iflag.getLsbD 1 = (s.iflag.getLsbD 1 || s.lcd.stat.getLsbD b) := by
  unfold requestStat
  split <;> simp_all [Line.bit]

/-- It leaves the vertical-blank line alone. -/
theorem requestStat_vblank (b : Nat) (s : State) : (requestStat b s).iflag.getLsbD 0 = s.iflag.getLsbD 0 := by
  unfold requestStat
  split <;> simp [Line.bit]

@[simp] theorem requestStat_lcd (b : Nat) (s : State) : (requestStat b s).lcd = s.lcd := by
  unfold requestStat
  split <;> rfl

/-- The entries of modes 0, 1, 2 and 3 (R522). -/
theorem enterMode_cases (s : State) :
    enterMode 0#2 s = requestStat 3 (withLcd s (rasterize s.mem s.lcd s.lcd.ly.toNat))
      ∧ enterMode 1#2 s = requestStat 4 (withLcd (request .vblank s) (completeFrame s.lcd))
      ∧ enterMode 2#2 s = requestStat 5 s ∧ enterMode 3#2 s = s := ⟨rfl, rfl, rfl, rfl⟩

/-- What entering a mode changes of the display (R522): the line's pixels, the frame mark and the palettes. -/
theorem enterMode_lcd (m : BitVec 2) (s : State) : ∃ bg fb fr pa sw, (enterMode m s).lcd = { s.lcd with
    bgCode := bg, frameBuffer := fb, frameReady := fr, paletteActive := pa, swapPending := sw } := by
  obtain ⟨e0, e1, e2, e3⟩ := enterMode_cases s
  induction m using field2_cases with
  | h0 => rw [e0, requestStat_lcd]; exact ⟨_, _, s.lcd.frameReady, s.lcd.paletteActive, s.lcd.swapPending, rfl⟩
  | h1 => rw [e1, requestStat_lcd]; exact ⟨s.lcd.bgCode, s.lcd.frameBuffer, _, _, _, rfl⟩
  | h2 => rw [e2, requestStat_lcd]; exact ⟨_, _, _, _, _, rfl⟩
  | h3 => rw [e3]; exact ⟨_, _, _, _, _, rfl⟩

/-- The entry of mode 1 requests vertical blank, and no other does (R522). -/
theorem enterMode_vblank (m : BitVec 2) (s : State) :
    (enterMode m s).iflag.getLsbD 0 = (s.iflag.getLsbD 0 || decide (m = 1#2)) := by
  obtain ⟨e0, e1, e2, e3⟩ := enterMode_cases s
  induction m using field2_cases <;> simp only [e0, e1, e2, e3, requestStat_vblank] <;> simp [Line.bit]

/-- The entries of modes 0, 1 and 2 request the display-status line under bits 3, 4 and 5 of STAT (R522). -/
theorem enterMode_status (m : BitVec 2) (s : State) :
    (enterMode m s).iflag.getLsbD 1 = true ↔ s.iflag.getLsbD 1 = true ∨ (m = 0#2 ∧ s.lcd.stat.getLsbD 3 = true)
      ∨ (m = 1#2 ∧ s.lcd.stat.getLsbD 4 = true) ∨ (m = 2#2 ∧ s.lcd.stat.getLsbD 5 = true) := by
  obtain ⟨e0, e1, e2, e3⟩ := enterMode_cases s
  induction m using field2_cases <;> simp only [e0, e1, e2, e3, requestStat_status]
    <;> simp [Line.bit, rasterize, completeFrame]

/-- The entry of mode 1 completes the frame and applies a pending palette, and no other does (R522, R545). -/
theorem enterMode_frame (m : BitVec 2) (s : State) :
    ((enterMode m s).lcd.frameReady = true ↔ s.lcd.frameReady = true ∨ m = 1#2)
      ∧ (m = 1#2 → (enterMode m s).lcd.paletteActive = s.lcd.swapPending.getD s.lcd.paletteActive
        ∧ (enterMode m s).lcd.swapPending = none)
      ∧ (m ≠ 1#2 → (enterMode m s).lcd.paletteActive = s.lcd.paletteActive
        ∧ (enterMode m s).lcd.swapPending = s.lcd.swapPending) := by
  obtain ⟨e0, e1, e2, e3⟩ := enterMode_cases s
  induction m using field2_cases <;> simp [e0, e1, e2, e3, rasterize, completeFrame]

/-! ## The mode evaluated -/

/-- The display enters mode `m` when the mode is evaluated: it was in another one (R521). -/
def Enters (s : State) (m : BitVec 2) : Prop := lcdMode s ≠ m ∧ modeOf s.lcd = m

/-- What the evaluation of the mode makes of the display (R521, R522): the mode is that of the line, and an entry has its
requests, the frame mark and the palette. -/
structure ModeEvaluated (s t : State) : Prop where
  line : t.lcd.ly = s.lcd.ly ∧ t.lcd.lineCycles = s.lcd.lineCycles ∧ t.lcd.lyc = s.lcd.lyc ∧ t.lcd.lcdc = s.lcd.lcdc
    ∧ t.lcd.prevCoinc = s.lcd.prevCoinc
  mode : lcdMode t = modeOf s.lcd
  enables : ∀ b, 2 ≤ b → b < 8 → t.lcd.stat.getLsbD b = s.lcd.stat.getLsbD b
  vblank : t.iflag.getLsbD 0 = true ↔ s.iflag.getLsbD 0 = true ∨ Enters s 1#2
  status : t.iflag.getLsbD 1 = true ↔ s.iflag.getLsbD 1 = true ∨ (Enters s 0#2 ∧ s.lcd.stat.getLsbD 3 = true)
    ∨ (Enters s 1#2 ∧ s.lcd.stat.getLsbD 4 = true) ∨ (Enters s 2#2 ∧ s.lcd.stat.getLsbD 5 = true)
  frame : t.lcd.frameReady = true ↔ s.lcd.frameReady = true ∨ Enters s 1#2
  palette : Enters s 1#2 → t.lcd.paletteActive = s.lcd.swapPending.getD s.lcd.paletteActive ∧ t.lcd.swapPending = none
  paletteKept : ¬Enters s 1#2 → t.lcd.paletteActive = s.lcd.paletteActive ∧ t.lcd.swapPending = s.lcd.swapPending

/-- The mode evaluated: nothing happens in the mode that the display is in, and another one is entered (R521). -/
theorem evaluateMode_evaluated (s : State) : ModeEvaluated s (evaluateMode s) := by
  by_cases h : modeOf s.lcd = lcdMode s
  · have stays : evaluateMode s = s := if_pos h
    have none : ∀ m, ¬Enters s m := fun m ⟨hne, hm⟩ => hne (h ▸ hm)
    rw [stays]
    constructor <;> simp [none, h]
  · have enters : evaluateMode s = enterMode (modeOf s.lcd) (withLcd s (setMode s.lcd (modeOf s.lcd))) := if_neg h
    have entered : ∀ m, modeOf s.lcd = m ↔ Enters s m :=
      fun m => ⟨fun hm => ⟨fun he => h (hm.trans he.symm), hm⟩, And.right⟩
    have enable : ∀ b, 2 ≤ b → b < 8 → (setMode s.lcd (modeOf s.lcd)).stat.getLsbD b = s.lcd.stat.getLsbD b :=
      fun _ => stat_setMode_other s.lcd.stat _
    have vblank := enterMode_vblank (modeOf s.lcd) (withLcd s (setMode s.lcd (modeOf s.lcd)))
    have status := enterMode_status (modeOf s.lcd) (withLcd s (setMode s.lcd (modeOf s.lcd)))
    obtain ⟨frame, palette, kept⟩ := enterMode_frame (modeOf s.lcd) (withLcd s (setMode s.lcd (modeOf s.lcd)))
    obtain ⟨_, _, _, _, _, lcd⟩ := enterMode_lcd (modeOf s.lcd) (withLcd s (setMode s.lcd (modeOf s.lcd)))
    simp only [entered, ne_eq, withLcd_lcd, withLcd_iflag, enable 3 (by decide) (by decide), enable 4 (by decide) (by decide),
      enable 5 (by decide) (by decide)] at status frame palette kept
    rw [enters]
    refine ⟨?line, ?mode, ?enables, ?vblank, status, frame, palette, kept⟩
    case line => rw [lcd]; exact ⟨rfl, rfl, rfl, rfl, rfl⟩
    case mode => rw [lcdMode, lcd]; exact stat_setMode_mode s.lcd.stat _
    case enables => rw [lcd]; exact enable
    case vblank => rw [vblank, Bool.or_eq_true, decide_eq_true_iff, entered]; rfl

/-! ## The coincidence test -/

/-- What the coincidence test writes (R526). -/
theorem coincidence_lcd (s : State) : (coincidence s).lcd = { s.lcd with
    stat := (s.lcd.stat &&& 0xFB#8) ||| (if (s.lcd.ly == s.lcd.lyc) = true then 0x04#8 else 0x00#8)
    prevCoinc := s.lcd.ly == s.lcd.lyc } :=
  iteInduction (motive := fun t : State => t.lcd = { s.lcd with
    stat := (s.lcd.stat &&& 0xFB#8) ||| (if (s.lcd.ly == s.lcd.lyc) = true then 0x04#8 else 0x00#8)
    prevCoinc := s.lcd.ly == s.lcd.lyc }) (fun _ => rfl) (fun _ => rfl)

/-- The rising edge of LY = LYC requests the display-status line under bit 6 of STAT, and nothing else (R526, R527). -/
theorem coincidence_lines (s : State) :
    (coincidence s).iflag.getLsbD 0 = s.iflag.getLsbD 0
      ∧ ((coincidence s).iflag.getLsbD 1 = true ↔ s.iflag.getLsbD 1 = true
        ∨ (s.lcd.ly = s.lcd.lyc ∧ s.lcd.prevCoinc = false ∧ s.lcd.stat.getLsbD 6 = true)) := by
  obtain ⟨-, -, h6⟩ := stat_coincidence s.lcd.stat (s.lcd.ly == s.lcd.lyc)
  unfold coincidence
  dsimp only
  rw [h6]
  split <;> simp_all [Line.bit]

/-! ## A display step -/

/-- The state whose mode a display step evaluates: the line advanced. -/
def lineAdvanced (n : Nat) (s : State) : State := withLcd s (advanceLine n s.lcd)

/-- Advancing the line changes LY and the cycle in it only. -/
theorem advanceLine_frame (n : Nat) (d : Lcd) :
    ∃ y c, advanceLine n d = { d with ly := y, lineCycles := c } := by
  unfold advanceLine
  split
  exacts [⟨_, _, rfl⟩, ⟨d.ly, _, rfl⟩]

/-- A display step with the display on (R521, R526): the line advanced, the mode evaluated, the coincidence tested. -/
theorem displayStep_on {s : State} (h : s.lcd.lcdc.getLsbD 7 = true) (n : Nat) :
    displayStep n s = coincidence (evaluateMode (lineAdvanced n s)) := if_pos h

/-- A display step with the display off (R520). -/
theorem displayStep_off {s : State} (h : s.lcd.lcdc.getLsbD 7 = false) (n : Nat) :
    displayStep n s = withLcd s (displayOff s.lcd) := if_neg (ne_true_of_eq_false h)

/-- What a display step does with the display on. -/
structure DisplayAdvanced (n : Nat) (s t : State) : Prop where
  line : t.lcd.ly = (advanceLine n s.lcd).ly ∧ t.lcd.lineCycles = (advanceLine n s.lcd).lineCycles ∧ t.lcd.lyc = s.lcd.lyc
    ∧ t.lcd.lcdc = s.lcd.lcdc
  mode : t.lcd.stat.extractLsb' 0 2 = modeOf (advanceLine n s.lcd)
  coincides : t.lcd.stat.getLsbD 2 = decide (t.lcd.ly = t.lcd.lyc) ∧ t.lcd.prevCoinc = decide (t.lcd.ly = s.lcd.lyc)
  vblank : t.iflag.getLsbD 0 = true ↔ s.iflag.getLsbD 0 = true ∨ Enters (lineAdvanced n s) 1#2
  status : t.iflag.getLsbD 1 = true
    ↔ (s.iflag.getLsbD 1 = true ∨ (Enters (lineAdvanced n s) 0#2 ∧ s.lcd.stat.getLsbD 3 = true)
      ∨ (Enters (lineAdvanced n s) 1#2 ∧ s.lcd.stat.getLsbD 4 = true)
      ∨ (Enters (lineAdvanced n s) 2#2 ∧ s.lcd.stat.getLsbD 5 = true))
    ∨ (t.lcd.ly = t.lcd.lyc ∧ s.lcd.prevCoinc = false ∧ s.lcd.stat.getLsbD 6 = true)
  frame : t.lcd.frameReady = true ↔ s.lcd.frameReady = true ∨ Enters (lineAdvanced n s) 1#2
  palette : Enters (lineAdvanced n s) 1#2 →
    t.lcd.paletteActive = s.lcd.swapPending.getD s.lcd.paletteActive ∧ t.lcd.swapPending = none
  paletteKept : ¬Enters (lineAdvanced n s) 1#2 →
    t.lcd.paletteActive = s.lcd.paletteActive ∧ t.lcd.swapPending = s.lcd.swapPending

theorem displayStep_advanced {s : State} (h : s.lcd.lcdc.getLsbD 7 = true) (n : Nat) :
    DisplayAdvanced n s (displayStep n s) := by
  obtain ⟨y, c, hd⟩ := advanceLine_frame n s.lcd
  have adv : (lineAdvanced n s).lcd = { s.lcd with ly := y, lineCycles := c } := hd
  have e := evaluateMode_evaluated (lineAdvanced n s)
  obtain ⟨hly, hcycle, hlyc, hlcdc, hprev⟩ := e.line
  have hlcd := coincidence_lcd (evaluateMode (lineAdvanced n s))
  obtain ⟨hvblank, hstatus⟩ := coincidence_lines (evaluateMode (lineAdvanced n s))
  obtain ⟨hmode, hbit, -⟩ := stat_coincidence (evaluateMode (lineAdvanced n s)).lcd.stat
    ((evaluateMode (lineAdvanced n s)).lcd.ly == (evaluateMode (lineAdvanced n s)).lcd.lyc)
  have palette := e.palette
  have kept := e.paletteKept
  rw [displayStep_on h]
  refine ⟨?line, ?mode, ?coincides, hvblank ▸ e.vblank, ?status, ?frame, ?palette, ?kept⟩ <;> simp only [hlcd]
  case line => exact ⟨hly, hcycle, hlyc.trans (by rw [adv]), hlcdc.trans (by rw [adv])⟩
  case mode => exact hmode.trans e.mode
  case coincides =>
    have lyc : (evaluateMode (lineAdvanced n s)).lcd.lyc = s.lcd.lyc := hlyc.trans (by rw [adv])
    refine ⟨hbit.trans (Bool.beq_eq_decide_eq ..), ?_⟩
    rw [← lyc]
    exact Bool.beq_eq_decide_eq ..
  case status =>
    rw [hstatus, e.status, e.enables 6 (by decide) (by decide), hprev, adv]
    rfl
  case frame => rw [e.frame, adv]
  case palette => rw [adv] at palette; exact palette
  case kept => rw [adv] at kept; exact kept

/-! ## The display's registers after a step -/

/-- The registers that a display step leaves (R520, R521, R526). -/
theorem displayStep_registers (n : Nat) (s : State) :
    let d := (displayStep n s).lcd
    (d.lcdc.getLsbD 7 = true → d.stat.extractLsb' 0 2 = modeOf d ∧ d.stat.getLsbD 2 = decide (d.ly = d.lyc))
      ∧ (d.lcdc.getLsbD 7 = false → d.ly = 0#8 ∧ d.lineCycles = 0 ∧ d.stat.extractLsb' 0 2 = 0#2) := by
  cases h : s.lcd.lcdc.getLsbD 7 with
  | true =>
    have a := displayStep_advanced h n
    obtain ⟨hly, hcycle, -, hlcdc⟩ := a.line
    have hmode : modeOf (displayStep n s).lcd = modeOf (advanceLine n s.lcd) := by simp only [modeOf, hly, hcycle]
    exact ⟨fun _ => ⟨a.mode.trans hmode.symm, a.coincides.1⟩, fun hoff => by rw [hlcdc, h] at hoff; cases hoff⟩
  | false =>
    have hd : (displayStep n s).lcd = displayOff s.lcd := congrArg State.lcd (displayStep_off h n)
    refine ⟨fun hon => ?_, fun _ => ?_⟩ <;> rw [hd] at *
    · exact absurd (h.symm.trans hon) (by decide)
    · exact ⟨rfl, rfl, stat_setMode_mode s.lcd.stat 0#2⟩

/-- A step that did not fault ends with the end of a step (R400). -/
theorem step_finish {s t : State} (h : step s = .next t) (hf : isFaulted t = false) :
    ∃ u, cpuStep (beginStep s) = .next u ∧ t = finishStep u := by
  obtain ⟨u, -, hu, ⟨hfu, rfl⟩ | ⟨-, rfl⟩⟩ := step_cases h
  · exact absurd (hf.symm.trans hfu) (by decide)
  · exact ⟨u, hu, rfl⟩

/-- Settles O40: a step that did not fault ends with a display step, which leaves the registers so. -/
theorem displayRegistersFollowTheLine : Obligations.DisplayRegistersFollowTheLine := by
  intro s t h hf
  obtain ⟨u, -, rfl⟩ := step_finish h hf
  rw [finishStep_lcd]
  exact displayStep_registers _ _

/-! ## Requests and timing -/

/-- LY and the cycle in the line advance as one number modulo 154 lines of 456 cycles (R521). -/
theorem advanceLine_position {d : Lcd} {n : Nat} (hy : d.ly.toNat ≤ 153) (hc : d.lineCycles < 456) (hn : n ≤ 24) :
    456 * (advanceLine n d).ly.toNat + (advanceLine n d).lineCycles = (456 * d.ly.toNat + d.lineCycles + n) % 70224
      ∧ (advanceLine n d).lineCycles < 456 := by
  have hmod : (d.ly.toNat + 1) % 154 < 256 := by omega
  unfold advanceLine
  split
  · simp only [BitVec.toNat_ofNat, Nat.reducePow, Nat.mod_eq_of_lt hmod]
    omega
  · simp only
    omega

/-- A mode is entered when the display was in another one before the step. -/
theorem enters_lineAdvanced {n : Nat} {s t : State} (a : DisplayAdvanced n s t) (m : BitVec 2) :
    Enters (lineAdvanced n s) m ↔ s.lcd.stat.extractLsb' 0 2 ≠ m ∧ t.lcd.stat.extractLsb' 0 2 = m := by
  obtain ⟨y, c, hd⟩ := advanceLine_frame n s.lcd
  have hold : lcdMode (lineAdvanced n s) = s.lcd.stat.extractLsb' 0 2 := by simp only [lcdMode, lineAdvanced, hd, withLcd_lcd]
  rw [Enters, hold, a.mode]
  rfl

/-- Settles O54: the display step's requests are those of the mode entered and of the coincidence edge. -/
theorem displayTimingAndRequests : Obligations.DisplayTimingAndRequests := by
  intro s n hon hwf hn t old new entered enabled
  have a : DisplayAdvanced n s t := displayStep_advanced hon n
  obtain ⟨hly, hcycle, hlyc, -⟩ := a.line
  obtain ⟨hpos, hlt⟩ := advanceLine_position hwf.ly hwf.lineCycles hn
  have enters : ∀ m, Enters (lineAdvanced n s) m ↔ entered m := enters_lineAdvanced a
  have status := a.status
  have palette := a.palette
  have kept := a.paletteKept
  simp only [enters] at status palette kept
  refine ⟨hly ▸ hcycle ▸ hpos, hcycle ▸ hlt, ?vblank, ?status, a.coincides.2, palette, kept⟩
  case vblank => rw [a.vblank, enters]
  case status => rw [status, or_assoc, or_assoc, or_assoc]

/-! ## Frame delivery -/

/-- The display's mode and its frame mark, as the CPU part finds and leaves them. -/
def modeAndFrame (s : State) : BitVec 2 × Bool := (s.lcd.stat.extractLsb' 0 2, s.lcd.frameReady)

/-- No bus write changes the mode or the frame mark (R59). -/
theorem memWrite_modeAndFrame (s : State) (a : Word) (v : Byte) : modeAndFrame (memWrite s a v) = modeAndFrame s := by
  refine memWrite_induct (P := fun t => modeAndFrame t = modeAndFrame s) s v rfl ?control (fun _ => rfl) ?window ?register rfl a
  case control =>
    intro n
    obtain ⟨_, _, hf⟩ := cartControlWrite_frame s n v
    rw [hf]
    rfl
  case window =>
    intro n
    obtain ⟨_, _, _, _, hf⟩ := cartRamWrite_frame s n v
    rw [hf]
    rfl
  case register =>
    intro r
    cases r
    case stat => exact congrArg (·, s.lcd.frameReady) (stat_write_mode s.lcd.stat v)
    case dma => rw [regWrite_dma, modeAndFrame, dmaCopy_lcd]; rfl
    case boot => rw [regWrite_boot]; split <;> rfl
    all_goals rfl

/-- The CPU part of a step leaves them alone. -/
theorem modeAndFrame_cpuKeeps (x : BitVec 2 × Bool) : CpuKeeps (fun s => modeAndFrame s = x) :=
  .of_sameUnits (fun h u => by simpa only [modeAndFrame, u.lcd] using h) fun a v h => (memWrite_modeAndFrame _ a v).trans h

theorem modeAndFrame_beginStep (s : State) : modeAndFrame (beginStep s) = (s.lcd.stat.extractLsb' 0 2, false) := by
  rw [modeAndFrame, beginStep_lcd]

theorem deliveredFrame_isSome (s : State) : (deliveredFrame s).isSome = s.lcd.frameReady := by
  unfold deliveredFrame
  cases s.lcd.frameReady <;> rfl

/-- A display step that starts with no frame marks one exactly when it enters mode 1, and then vertical blank is pending. -/
theorem displayStep_frame_iff {s : State} (h : s.lcd.frameReady = false) (n : Nat) :
    ((displayStep n s).lcd.frameReady = true ↔ (displayStep n s).lcd.lcdc.getLsbD 7 = true
        ∧ s.lcd.stat.extractLsb' 0 2 ≠ 1#2 ∧ (displayStep n s).lcd.stat.extractLsb' 0 2 = 1#2)
      ∧ ((displayStep n s).lcd.frameReady = true → (displayStep n s).iflag.getLsbD 0 = true) := by
  cases hon : s.lcd.lcdc.getLsbD 7 with
  | true =>
    have a := displayStep_advanced hon n
    obtain ⟨-, -, -, hlcdc⟩ := a.line
    have enters := enters_lineAdvanced a 1#2
    refine ⟨?_, fun hf => a.vblank.mpr (.inr ?_)⟩
    · rw [a.frame, enters, hlcdc, hon, h]
      simp
    · simpa [h] using a.frame.mp hf
  | false =>
    rw [displayStep_off hon]
    have dark : (displayOff s.lcd).lcdc.getLsbD 7 = false := hon
    have unmarked : (displayOff s.lcd).frameReady = false := h
    simp only [withLcd_lcd, dark, unmarked, Bool.false_eq_true, false_and, false_implies, and_true]

/-- Settles O41: the frame mark is clear and the mode is the old one when the display advances, and what follows clears no
line. -/
theorem frameDeliveredOnVblankEntry : Obligations.FrameDeliveredOnVblankEntry := by
  intro s t h hf
  obtain ⟨u, hu, rfl⟩ := step_finish h hf
  have hcpu : modeAndFrame u = (s.lcd.stat.extractLsb' 0 2, false) :=
    (modeAndFrame_cpuKeeps _).cpuStep hu (modeAndFrame_beginStep s)
  obtain ⟨hmode, hframe⟩ := Prod.mk.inj hcpu
  obtain ⟨delivered, requested⟩ :=
    displayStep_frame_iff (s := timerStep u.cycles (endOfStep u)) (by simpa using hframe) u.cycles
  have kept : LinesKept (displayStep u.cycles (timerStep u.cycles (endOfStep u))) (finishStep u) :=
    ((LinesKept.of_eq (t := soundStep u.cycles _) rfl).serialStep u.cycles).sampleInput
  rw [deliveredFrame_isSome, finishStep_lcd]
  simp only [timerStep_lcd, endOfStep_lcd, hmode] at delivered
  exact ⟨delivered, fun hd => kept 0 (requested hd)⟩

end Sys2Proof.Machine
end

section
/-! SUPPORT. The timer (O50), the serial link (O51) and the input sampling (O52). -/

namespace Sys2Proof.Machine

/-! ## The divider and the counter -/

/-- The thresholds of R39 as a list. -/
theorem timerThreshold_eq (tac : BitVec 3) : [1024, 16, 64, 256].getD (tac.toNat % 4) 0 = timerThreshold tac := by
  revert tac; decide

/-- The divider and its accumulator advance as one number (R450). -/
theorem dividerStep_position (n : Nat) (t : Timer) :
    256 * (dividerStep n t).div.toNat + (dividerStep n t).divAcc = (256 * t.div.toNat + t.divAcc + n) % 65536 := by
  have hd := t.div.isLt
  simp only [dividerStep, BitVec.toNat_add, BitVec.toNat_ofNat]
  omega

/-- The timer with another accumulator of TIMA. -/
def withTimaAcc (s : State) (acc : Nat) : State := { s with timer := { s.timer with timaAcc := acc } }

/-- One tick of TIMA does not look at its accumulator (R451). -/
theorem timaTick_withTimaAcc (s : State) (acc : Nat) : timaTick (withTimaAcc s acc) = withTimaAcc (timaTick s) acc := by
  unfold timaTick
  by_cases h : s.timer.tima = 0xFF#8
  · rw [if_pos h, if_pos (show (withTimaAcc s acc).timer.tima = 0xFF#8 from h)]
    rfl
  · rw [if_neg h, if_neg (show ¬(withTimaAcc s acc).timer.tima = 0xFF#8 from h)]
    rfl

/-- One tick of TIMA with its accumulator, TIMA and TMA as the statements write it (R451). -/
theorem withTimaAcc_timaTick (s : State) : withTimaAcc (timaTick s) 0 =
    if s.timer.tima = 0xFF#8 then
      { s with timer := { s.timer with tima := s.timer.tma, timaAcc := 0 }, iflag := s.iflag ||| 0b00100#5 }
    else { s with timer := { s.timer with tima := s.timer.tima + 1#8, timaAcc := 0 } } := by
  unfold timaTick
  split <;> rfl

/-- TAC is not changed by a tick. -/
theorem timaTick_tac (s : State) : (timaTick s).timer.tac = s.timer.tac := by
  unfold timaTick
  split <;> rfl

/-- The counter while TAC[2] is 1 (R451). -/
theorem counterStep_on {s : State} (h : s.timer.tac.getLsbD 2 = true) (n : Nat) :
    counterStep n s = timaTicks ((s.timer.timaAcc + n) / timerThreshold s.timer.tac)
      (withTimaAcc s ((s.timer.timaAcc + n) % timerThreshold s.timer.tac)) := if_pos h

/-- Below the threshold the cycles only accumulate (R451). -/
theorem counterStep_below {s : State} (h : s.timer.tac.getLsbD 2 = true) {n : Nat}
    (hn : s.timer.timaAcc + n < timerThreshold s.timer.tac) :
    counterStep n s = withTimaAcc s (s.timer.timaAcc + n) := by
  rw [counterStep_on h, Nat.div_eq_of_lt hn, Nat.mod_eq_of_lt hn]
  rfl

/-- Each threshold reached is one tick, and counting goes on with what is left (R451). -/
theorem counterStep_tick {s : State} (h : s.timer.tac.getLsbD 2 = true) {n : Nat}
    (hn : timerThreshold s.timer.tac ≤ s.timer.timaAcc + n) :
    counterStep n s = counterStep (s.timer.timaAcc + n - timerThreshold s.timer.tac) (withTimaAcc (timaTick s) 0) := by
  have htac : (withTimaAcc (timaTick s) 0).timer.tac = s.timer.tac := timaTick_tac s
  obtain ⟨hpos, -⟩ := timerThreshold_range s.timer.tac
  rw [counterStep_on h, counterStep_on (htac ▸ h), htac]
  have hzero : (withTimaAcc (timaTick s) 0).timer.timaAcc = 0 := rfl
  rw [hzero, Nat.zero_add, Nat.div_eq_sub_div hpos hn, Nat.mod_eq_sub_mod hn, timaTicks, timaTick_withTimaAcc]
  rfl

/-- Settles O50: the divider part, then the counter by whether a threshold is reached. -/
theorem timerCounts : Obligations.TimerCounts := by
  intro n s t threshold acc
  have hthreshold : threshold = timerThreshold s.timer.tac := timerThreshold_eq s.timer.tac
  obtain ⟨x, f, ht⟩ := timerStep_frame n s
  have hdiv : t.timer.div = (dividerStep n s.timer).div := congrArg (·.timer.div) ht
  have hacc : t.timer.divAcc = (dividerStep n s.timer).divAcc := congrArg (·.timer.divAcc) ht
  refine ⟨fun _ => ?_, fun h => if_neg (ne_true_of_eq_false h), fun h hn => ?_, fun h hn => ?_, ?_⟩
  · rw [hdiv, hacc]
    exact ⟨dividerStep_position n _, Nat.mod_lt _ (by decide)⟩
  · exact counterStep_below h (hthreshold ▸ hn)
  · rw [counterStep_tick h (hthreshold ▸ hn), withTimaAcc_timaTick, hthreshold]
  · rw [hdiv, hacc]
    rfl

/-! ## The serial link -/

/-- The serial link with another accumulator. -/
def withSerialAcc (s : State) (acc : Nat) : State := { s with serial := { s.serial with acc := acc } }

/-- A transfer with the internal clock is under way (R470). -/
def Transferring (s : State) : Prop := s.serial.sc.getLsbD 7 = true ∧ s.serial.sc.getLsbD 0 = true

theorem localTransfer_idle {s : State} (h : ¬Transferring s) (a : PeerAnswer) : localTransfer a s = s := if_neg h

theorem localTransfer_counts {s : State} (h : Transferring s) (h8 : s.serial.bitCount + 1 ≠ 8) (a : PeerAnswer) :
    localTransfer a s = { s with serial := { s.serial with bitCount := s.serial.bitCount + 1 } } :=
  (if_pos h).trans (if_neg h8)

theorem localTransfer_eighth {s : State} (h : Transferring s) (h8 : s.serial.bitCount + 1 = 8) (a : PeerAnswer) :
    localTransfer a s = activeExchange a { s with serial := { s.serial with bitCount := 0 } } :=
  (if_pos h).trans (if_pos h8)

/-- A tick does not look at the accumulator (R470). -/
theorem serialTick_withSerialAcc (s : State) (acc : Nat) :
    serialTick (withSerialAcc s acc) = withSerialAcc (serialTick s) acc := by
  have passive : ∀ a u, passiveExchange a (withSerialAcc u acc) = withSerialAcc (passiveExchange a u) acc := fun a u => by
    unfold passiveExchange
    split <;> rfl
  have active : ∀ a u, activeExchange a (withSerialAcc u acc) = withSerialAcc (activeExchange a u) acc := fun a u => by
    unfold activeExchange
    split <;> rfl
  have transfer : ∀ a u, localTransfer a (withSerialAcc u acc) = withSerialAcc (localTransfer a u) acc := fun a u => by
    by_cases h : Transferring u
    · by_cases h8 : u.serial.bitCount + 1 = 8
      · rw [localTransfer_eighth h h8, localTransfer_eighth (s := withSerialAcc u acc) h h8]
        exact active a { u with serial := { u.serial with bitCount := 0 } }
      · rw [localTransfer_counts h h8, localTransfer_counts (s := withSerialAcc u acc) h h8]
        rfl
    · rw [localTransfer_idle h, localTransfer_idle (s := withSerialAcc u acc) h]
  unfold serialTick
  exact (congrArg _ (passive _ (drawSerialPeer s))).trans (transfer _ _)

/-- Below 512 the cycles only accumulate (R470). -/
theorem serialStep_below {s : State} {n : Nat} (h : s.serial.acc + n < 512) :
    serialStep n s = withSerialAcc s (s.serial.acc + n) := by
  unfold serialStep
  dsimp only
  rw [Nat.div_eq_of_lt h, Nat.mod_eq_of_lt h]
  rfl

/-- Each 512 cycles reached are one tick, and the step goes on with what is left (R470). -/
theorem serialStep_tick {s : State} {n : Nat} (h : 512 ≤ s.serial.acc + n) :
    serialStep n s = serialStep (s.serial.acc + n - 512) (serialTick (withSerialAcc s 0)) := by
  have hzero : (serialTick (withSerialAcc s 0)).serial.acc = 0 := by rw [serialTick_withSerialAcc]; rfl
  have hfirst : serialStep n s
      = serialTicks ((s.serial.acc + n) / 512) (withSerialAcc s ((s.serial.acc + n) % 512)) := rfl
  have hrest : ∀ m u, serialStep m u = serialTicks ((u.serial.acc + m) / 512) (withSerialAcc u ((u.serial.acc + m) % 512)) :=
    fun _ _ => rfl
  rw [hfirst, hrest, hzero, Nat.zero_add, Nat.div_eq_sub_div (by decide) h, Nat.mod_eq_sub_mod h, serialTicks,
    serialTick_withSerialAcc, serialTick_withSerialAcc]
  rfl

/-- An unsolicited byte is exchanged, and clears the transfer flag before the transfer of SC is looked at (R470). -/
theorem serialTick_inbound {s : State} {b r : Byte} (h : s.host.serialPeer.now = .connected (some b) r) :
    serialTick s = finishTransfer b (sendToPeer (drawSerialPeer s)) := by
  have cleared : ¬Transferring (finishTransfer b (sendToPeer (drawSerialPeer s))) := fun ht => by
    have hbit : (s.serial.sc &&& 0x7F#8).getLsbD 7 = true := ht.1
    simp at hbit
  unfold serialTick
  rw [h]
  exact localTransfer_idle cleared _

/-- Without one only the transfer of SC moves (R470). -/
theorem serialTick_local {s : State} (h : ∀ b r, s.host.serialPeer.now ≠ .connected (some b) r) :
    serialTick s = localTransfer s.host.serialPeer.now (drawSerialPeer s) := by
  have passive : passiveExchange s.host.serialPeer.now (drawSerialPeer s) = drawSerialPeer s := by
    unfold passiveExchange
    split
    exacts [absurd ‹_› (h _ _), rfl, rfl]
  exact congrArg (localTransfer s.host.serialPeer.now) passive

/-- An exchange as the statements write it: the byte received, SC[7] cleared, the serial line requested (R470). -/
theorem finishTransfer_eq (b : Byte) (s : State) : finishTransfer b s =
    { s with serial := { s.serial with sb := b, sc := s.serial.sc &&& 0x7F#8 }, iflag := s.iflag ||| 0b01000#5 } := rfl

/-- The transfer `j` bits along. -/
def atBit (s : State) (j : Nat) : State := { s with serial := { s.serial with bitCount := j } }

section
variable {s : State} {r : Byte} (hp : s.host.serialPeer = ⟨.connected none r, []⟩) (ht : Transferring s)
include hp ht

omit ht in
/-- The tick of a transfer with a peer that sends nothing of its own and always answers the same. -/
theorem serialTick_atBit (j : Nat) : serialTick (atBit s j) = localTransfer (.connected none r) (atBit s j) := by
  have hnow : (atBit s j).host.serialPeer.now = .connected none r := congrArg Oracle.now hp
  have hdraw : Oracle.draw s.host.serialPeer = s.host.serialPeer := by rw [hp]; rfl
  have drawn : drawSerialPeer (atBit s j) = atBit s j := by
    have hsame : drawSerialPeer (atBit s j)
        = { atBit s j with host := { s.host with serialPeer := Oracle.draw s.host.serialPeer } } := rfl
    rw [hsame, hdraw]
    rfl
  rw [serialTick_local (by simp [hnow]), hnow, drawn]

/-- Fewer than eight ticks count bits and exchange nothing (R470). -/
theorem serialTicks_atBit {j k : Nat} (h : j + k < 8) : serialTicks k (atBit s j) = atBit s (j + k) := by
  induction k generalizing j with
  | zero => rfl
  | succ k ih =>
    have next : serialTick (atBit s j) = atBit s (j + 1) :=
      (serialTick_atBit hp j).trans (localTransfer_counts (s := atBit s j) ht (by change j + 1 ≠ 8; omega) _)
    rw [serialTicks, next, ih (by omega), Nat.add_right_comm, Nat.add_assoc]

/-- The eighth tick exchanges SB for the peer's byte (R470). -/
theorem serialTicks_eight : serialTicks 8 (atBit s 0) = finishTransfer r (sendToPeer (atBit s 0)) := by
  have split : ∀ k u, serialTicks (k + 1) u = serialTick (serialTicks k u) := fun k => by
    induction k with
    | zero => exact fun _ => rfl
    | succ k ih => exact fun u => ih (serialTick u)
  rw [split, serialTicks_atBit hp ht (by decide), serialTick_atBit hp]
  exact localTransfer_eighth (s := atBit s 7) ht rfl _

end

/-- Settles O51: a tick per 512 cycles, the tick's cases, and the eight ticks of a transfer. -/
theorem serialExchange : Obligations.SerialExchange := by
  refine ⟨fun n s => ⟨serialStep_below, serialStep_tick⟩, ?tick, ?fresh⟩
  case tick =>
    intro s t d moving exchanged
    refine ⟨fun b r h => serialTick_inbound h, fun hnone => ⟨fun h => ?idle, fun h h8 => ?counts, fun h h8 => ?eighth⟩⟩
    case idle => exact (serialTick_local hnone).trans (localTransfer_idle (s := d) h _)
    case counts => exact (serialTick_local hnone).trans (localTransfer_counts (s := d) h h8 _)
    case eighth =>
      have ticked : t = activeExchange s.host.serialPeer.now (atBit d 0) :=
        (serialTick_local hnone).trans (localTransfer_eighth (s := d) h h8 _)
      refine ⟨fun r hr => ?_, fun hr => ?_⟩ <;> rw [ticked, hr]
      · rfl
      · simp only [exchanged, List.append_nil]
        rfl
  case fresh =>
    intro s r hp x t
    obtain ⟨w, hw⟩ : ∃ w : State, w = { s with serial := { s.serial with sc := 0x81#8 } } := ⟨_, rfl⟩
    have hx : x = atBit w 0 := hw ▸ rfl
    have peer : w.host.serialPeer = ⟨.connected none r, []⟩ := hw ▸ hp
    have moving : Transferring w := by
      have bits : (0x81#8).getLsbD 7 = true ∧ (0x81#8).getLsbD 0 = true := by decide
      rw [hw]
      exact bits
    refine ⟨fun k hk => ?_, ?_⟩
    · rw [hx, serialTicks_atBit peer moving (by omega), Nat.zero_add, hw]
      exact ⟨rfl, rfl, rfl⟩
    · have last : t = finishTransfer r (sendToPeer (atBit w 0)) :=
        (congrArg (serialTicks 8) hx).trans (serialTicks_eight peer moving)
      rw [last, hw]
      exact ⟨rfl, show 0x81#8 &&& 0x7F#8 = 0x01#8 by decide, rfl, rfl⟩

/-! ## Input sampling -/

/-- P1's low four bits are the input lines (R33). -/
theorem memRead_p1_lines (s : State) : (memRead s 0xFF00#16).extractLsb' 0 4 = inputLines s := by
  rw [memRead_ioReg s 0xFF00#16 .p1 rfl]
  exact BitVec.extractLsb'_append_eq_right

/-- Settles O52: the lines are those that P1 shows, and a falling one requests. -/
theorem inputSampling : Obligations.InputSampling := by
  intro s lines
  have hlines : lines = inputLines s := memRead_p1_lines s
  rw [hlines]
  unfold sampleInput
  dsimp only
  by_cases h : s.joyPrev &&& ~~~inputLines s = 0#4
  · simp only [h, ne_eq, not_true_eq_false, if_true, if_false]
    rfl
  · simp only [h, ne_eq, not_false_eq_true, if_true, if_false]
    rfl

end Sys2Proof.Machine
end

section
/-! SUPPORT. The sound controller's clocks and samples (O57, O58): what the frame sequencer changes, the samples emitted and
their range, and the three units that count a period down. -/

namespace Sys2Proof.Machine

/-! ## What the frame sequencer changes -/

/-- Only channel 1 and the sweep change. -/
inductive SweepOnly (d : Sound) : Sound → Prop where
  | mk (q : Square) (w : Sweep) : SweepOnly d { d with ch1 := q, sweep := w }

namespace SweepOnly

variable {d e : Sound}

theorem refl (d : Sound) : SweepOnly d d := .mk d.ch1 d.sweep

theorem sweepCheck (h : SweepOnly d e) : SweepOnly d (sweepCheck e) := by
  unfold Machine.sweepCheck
  split
  exacts [by cases h; exact .mk .., h]

theorem sweepUpdate (h : SweepOnly d e) : SweepOnly d (sweepUpdate e) := by
  have written : ∀ {e}, SweepOnly d e → ∀ new, SweepOnly d (sweepWriteBack e new) := fun h _ => by cases h; exact .mk ..
  unfold Machine.sweepUpdate
  dsimp only
  repeat' split
  exacts [(written h.sweepCheck _).sweepCheck, h.sweepCheck, h]

/-- The sweep clock (R570). -/
theorem clockSweep (d : Sound) : SweepOnly d (clockSweep d) := by
  have timed : ∀ w : Sweep, SweepOnly d { d with sweep := w } := fun w => .mk d.ch1 w
  exact iteInduction (motive := SweepOnly d)
    (fun _ => iteInduction (motive := SweepOnly d) (fun _ => (timed _).sweepUpdate) (fun _ => timed _)) (fun _ => refl d)

end SweepOnly

/-- Only the channels and the sweep change. -/
inductive ChannelsOnly (d : Sound) : Sound → Prop where
  | mk (q1 q2 : Square) (w : Wave) (n : Noise) (s : Sweep) :
    ChannelsOnly d { d with ch1 := q1, ch2 := q2, ch3 := w, ch4 := n, sweep := s }

namespace ChannelsOnly

variable {d e : Sound}

theorem refl (d : Sound) : ChannelsOnly d d := .mk d.ch1 d.ch2 d.ch3 d.ch4 d.sweep

theorem clockSweep (h : ChannelsOnly d e) : ChannelsOnly d (clockSweep e) := by
  have hs := SweepOnly.clockSweep e
  generalize Machine.clockSweep e = t at hs
  cases h
  cases hs
  exact .mk ..

theorem clockLengths (h : ChannelsOnly d e) : ChannelsOnly d (clockLengths e) := by cases h; exact .mk ..

theorem clockEnvelopes (h : ChannelsOnly d e) : ChannelsOnly d (clockEnvelopes e) := by cases h; exact .mk ..

/-- The frame sequencer clocks the channels and the sweep only (R566). -/
theorem frameSequencer (d : Sound) (p : Nat) : ChannelsOnly d (frameSequencer d p) := by
  have branch : ∀ {c : Prop} [Decidable c] {a b : Sound}, ChannelsOnly d a → ChannelsOnly d b →
      ChannelsOnly d (if c then a else b) := fun ha hb => by
    split
    exacts [ha, hb]
  have lengths := branch (c := p % 2 = 0) (refl d).clockLengths (refl d)
  have sweep := branch (c := p = 2 ∨ p = 6) lengths.clockSweep lengths
  exact branch sweep.clockEnvelopes sweep

end ChannelsOnly

/-- A gated T-cycle leaves the sample accumulator alone (R561). -/
theorem soundClock_sampleAcc (d : Sound) : (soundClock d).sampleAcc = d.sampleAcc := by
  have sequenced : (frameSequencer d d.fsPhase).sampleAcc = d.sampleAcc := by
    have h := ChannelsOnly.frameSequencer d d.fsPhase
    generalize frameSequencer d d.fsPhase = e at h
    cases h
    rfl
  unfold soundClock
  dsimp only
  repeat' split
  exacts [sequenced, rfl, rfl]

/-- With the master enable off nothing is clocked (R561). -/
theorem soundClock_off {d : Sound} (h : d.master = false) : soundClock d = d := if_neg (ne_true_of_eq_false h)

/-! ## Samples -/

/-- One T-cycle (R576): the accumulator wraps at the clock rate, and a sample is emitted when it does. -/
theorem soundTick_eq (mem : Memory) {d : Sound} (h : d.sampleAcc < 4194304) :
    (soundTick mem d).1 = { soundClock d with sampleAcc := (d.sampleAcc + 44100) % 4194304 }
      ∧ (soundTick mem d).2 = if d.sampleAcc + 44100 ≥ 4194304 then [mix mem (soundTick mem d).1] else [] := by
  unfold soundTick
  simp only [soundClock_sampleAcc]
  split
  next hw =>
    refine ⟨?_, rfl⟩
    rw [Nat.mod_eq_sub_mod hw, Nat.mod_eq_of_lt (by omega)]
  next hw => exact ⟨by rw [Nat.mod_eq_of_lt (by omega)], rfl⟩

theorem soundTicks_zero (mem : Memory) (d : Sound) : soundTicks mem 0 d = (d, []) := rfl

theorem soundTicks_succ (mem : Memory) (n : Nat) (d : Sound) : soundTicks mem (n + 1) d
    = ((soundTicks mem n (soundTick mem d).1).1, (soundTick mem d).2 ++ (soundTicks mem n (soundTick mem d).1).2) := by
  generalize hr : soundTick mem d = r
  conv_lhs => unfold soundTicks
  rw [hr]

/-- How many samples `n` T-cycles emit, and what is left in the accumulator (R576). -/
theorem soundTicks_count (mem : Memory) (n : Nat) {d : Sound} (h : SoundWf d) :
    (soundTicks mem n d).2.length = (d.sampleAcc + 44100 * n) / 4194304
      ∧ (soundTicks mem n d).1.sampleAcc = (d.sampleAcc + 44100 * n) % 4194304 := by
  induction n generalizing d with
  | zero =>
    have := h.sampleAcc
    rw [soundTicks_zero]
    exact ⟨by rw [List.length_nil]; omega, by dsimp only; omega⟩
  | succ n ih =>
    obtain ⟨hlen, hacc⟩ := ih (h.soundTick mem)
    have hd := h.sampleAcc
    obtain ⟨hstate, hout⟩ := soundTick_eq mem hd
    have hnext : (soundTick mem d).1.sampleAcc = (d.sampleAcc + 44100) % 4194304 := by rw [hstate]
    rw [soundTicks_succ, List.length_append, hlen, hacc, hnext, hout]
    split <;> simp only [List.length_singleton, List.length_nil] <;> omega

/-! ## The range of a sample -/

theorem squareOut_le {q : Square} (h : SquareWf q) : squareOut q ≤ 15 := by
  have duty : ∀ i < 4, ∀ j < 8, (dutyTable.getD i []).getD j 0 ≤ 1 := by decide
  have hi : (q.nrx1 >>> 6).toNat < 4 := by bv_omega
  unfold squareOut
  split
  · calc _ ≤ 1 * q.env.volume := Nat.mul_le_mul_right _ (duty _ hi _ h.dutyPos)
      _ ≤ 15 := by rw [Nat.one_mul]; exact h.env.1
  · exact Nat.zero_le _

theorem waveOut_le (mem : Memory) (w : Wave) : waveOut mem w ≤ 15 := by
  have sample : waveSample mem w ≤ 15 := by
    have := (Memory.read mem (0xFF30 + w.wavePos / 2)).isLt
    unfold waveSample
    dsimp only
    split <;> omega
  unfold waveOut
  split
  exacts [(Nat.div_le_self ..).trans sample, Nat.zero_le _]

theorem noiseOut_le {n : Noise} (h : NoiseWf n) : noiseOut n ≤ 15 := by
  unfold noiseOut
  repeat' split
  exacts [Nat.zero_le _, h.env.1, Nat.zero_le _]

/-- Four outputs of at most 15 each (R575). -/
theorem panned_le (mem : Memory) {d : Sound} (h : SoundWf d) (lo : Nat) : panned mem d lo ≤ 60 := by
  have branch : ∀ {c : Prop} [Decidable c] {n : Nat}, n ≤ 15 → (if c then n else 0) ≤ 15 := fun hn => by
    split
    exacts [hn, Nat.zero_le _]
  have h1 := branch (c := d.nr51.getLsbD lo = true) (squareOut_le h.ch1)
  have h2 := branch (c := d.nr51.getLsbD (lo + 1) = true) (squareOut_le h.ch2)
  have h3 := branch (c := d.nr51.getLsbD (lo + 2) = true) (waveOut_le mem d.ch3)
  have h4 := branch (c := d.nr51.getLsbD (lo + 3) = true) (noiseOut_le h.ch4)
  unfold panned
  omega

/-- Each side is a fraction of 480, 60 at each of the eight volume levels (R575). -/
theorem mix_le (mem : Memory) {d : Sound} (h : SoundWf d) : (mix mem d).left480 ≤ 480 ∧ (mix mem d).right480 ≤ 480 := by
  have level : ∀ v : Byte, (v &&& 0x07#8).toNat + 1 ≤ 8 := fun v => Nat.succ_le_succ (and_toNat_le v 7 (by decide))
  unfold mix
  split
  exacts [⟨Nat.mul_le_mul (panned_le mem h 4) (level _), Nat.mul_le_mul (panned_le mem h 0) (level _)⟩,
    ⟨Nat.zero_le _, Nat.zero_le _⟩]

/-- What every sample that T-cycles emit is: a mix of a state in its ranges, and silence with the master enable off. -/
theorem soundTicks_samples (mem : Memory) (n : Nat) {d : Sound} (h : SoundWf d) :
    ∀ p ∈ (soundTicks mem n d).2, p.left480 ≤ 480 ∧ p.right480 ≤ 480 := by
  induction n generalizing d with
  | zero => simp [soundTicks_zero]
  | succ n ih =>
    have ht := h.soundTick mem
    obtain ⟨-, hout⟩ := soundTick_eq mem h.sampleAcc
    intro p hp
    rw [soundTicks_succ, hout] at hp
    rcases List.mem_append.mp hp with hp | hp
    · split at hp
      · rw [List.mem_singleton.mp hp]
        exact mix_le mem ht
      · cases hp
    · exact ih ht p hp

/-- With the master enable off T-cycles emit silence and move the accumulator only (R561, R576). -/
theorem soundTicks_off (mem : Memory) (n : Nat) {d : Sound} (h : SoundWf d) (hoff : d.master = false) :
    (∀ p ∈ (soundTicks mem n d).2, p = ⟨0, 0⟩)
      ∧ (soundTicks mem n d).1 = { d with sampleAcc := (soundTicks mem n d).1.sampleAcc } := by
  induction n generalizing d with
  | zero => exact ⟨fun _ hp => absurd hp List.not_mem_nil, rfl⟩
  | succ n ih =>
    obtain ⟨hstate, hout⟩ := soundTick_eq mem h.sampleAcc
    rw [soundClock_off hoff] at hstate
    obtain ⟨silent, same⟩ := ih (h.soundTick mem) (by rw [hstate]; exact hoff)
    have silence : mix mem (soundTick mem d).1 = ⟨0, 0⟩ := if_neg (by rw [hstate]; exact ne_true_of_eq_false hoff)
    rw [soundTicks_succ]
    refine ⟨fun p hp => ?_, ?_⟩
    · rw [hout, silence] at hp
      rcases List.mem_append.mp hp with hp | hp
      · split at hp
        exacts [List.mem_singleton.mp hp, absurd hp List.not_mem_nil]
      · exact silent p hp
    · dsimp only
      rw [same, hstate]

/-- Settles O58: the count and the remainder, the range of a mix, and silence with the master enable off. -/
theorem sampleRateAndRange : Obligations.SampleRateAndRange := by
  intro mem n d h r
  obtain ⟨hlen, hacc⟩ := soundTicks_count mem n h
  exact ⟨hlen, hacc, soundTicks_samples mem n h, soundTicks_off mem n h⟩

end Sys2Proof.Machine
end

section
/-! SUPPORT. The frame sequencer's clocks and the channels' periods (O57): each clock as the statements write it, and a unit
that counts a period down, proved once for the square, wave and noise channels. -/

namespace Sys2Proof.Machine

/-! ## The length and envelope clocks -/

/-- The low three bits of a byte as a number. -/
theorem and_seven_toNat (x : Byte) : (x &&& 0x07#8).toNat = x.toNat % 8 := by
  revert x; decide

/-- The length clock (R567). -/
theorem lengthClock_eq (c : ChannelCore) (nrx4 : Byte) : lengthClock c nrx4 =
    if nrx4.getLsbD 6 = true ∧ 0 < c.length then ⟨c.en && decide (c.length ≠ 1), c.freqTimer, c.length - 1⟩ else c := by
  unfold lengthClock
  split
  next h =>
    have hlast : (!(c.length - 1 == 0)) = decide (c.length ≠ 1) := by
      obtain ⟨-, hpos⟩ := h
      rw [Bool.eq_iff_iff]
      simp
      omega
    rw [hlast]
  next => rfl

/-- The envelope clock (R568). -/
theorem envelopeClock_eq (e : Envelope) (en : Bool) (r : Byte) : envelopeClock e en r =
    if en = true ∧ r.toNat % 8 ≠ 0 then
      if 1 < e.timer then ⟨e.volume, e.timer - 1⟩
      else ⟨if r.getLsbD 3 = true then (if e.volume < 15 then e.volume + 1 else e.volume) else e.volume - 1, r.toNat % 8⟩
    else e := by
  have down : (if e.volume > 0 then e.volume - 1 else e.volume) = e.volume - 1 := by split <;> omega
  unfold envelopeClock stepVolume
  simp only [and_seven_toNat, down]
  split
  · by_cases ht : 1 < e.timer
    · have hleft : (if e.timer > 0 then e.timer - 1 else e.timer) = e.timer - 1 := if_pos (by omega)
      rw [hleft, if_neg (by omega), if_pos ht]
    · have hdone : (if e.timer > 0 then e.timer - 1 else e.timer) = 0 := by split <;> omega
      rw [hdone, if_pos rfl, if_neg ht]
  · rfl

/-! ## The sweep clock -/

/-- The sweep timer reloaded (R570). -/
def sweepReloaded (w : Sweep) : Sweep := { w with timer := if w.nr10.toNat / 16 % 8 = 0 then 8 else w.nr10.toNat / 16 % 8 }

/-- The frequency that the sweep computes (R569). -/
theorem sweepTarget_eq (w : Sweep) : sweepTarget w = if w.nr10.getLsbD 3 = true
    then w.shadow - w.shadow / 2 ^ (w.nr10.toNat % 8) else w.shadow + w.shadow / 2 ^ (w.nr10.toNat % 8) := by
  rw [sweepTarget, sweepShift_eq]

theorem sweepReload_eq (w : Sweep) : sweepReload w = if w.nr10.toNat / 16 % 8 = 0 then 8 else w.nr10.toNat / 16 % 8 := by
  rw [sweepReload, sweepPeriod_eq, ite_not]

/-- A disabled channel 1 is not swept (R570). -/
theorem clockSweep_disabled {d : Sound} (h : d.ch1.core.en = false) : clockSweep d = d := if_neg (ne_true_of_eq_false h)

/-- A sweep timer still running counts down (R570). -/
theorem clockSweep_running {d : Sound} (h : d.ch1.core.en = true) (ht : 1 < d.sweep.timer) :
    clockSweep d = { d with sweep := { d.sweep with timer := d.sweep.timer - 1 } } := by
  have hleft : (if d.sweep.timer > 0 then d.sweep.timer - 1 else d.sweep.timer) = d.sweep.timer - 1 := if_pos (by omega)
  rw [clockSweep, if_pos h, hleft]
  exact if_neg (by omega)

/-- An expired one is reloaded, and the frequency updated (R570). -/
theorem clockSweep_expired {d : Sound} (h : d.ch1.core.en = true) (ht : d.sweep.timer ≤ 1) :
    clockSweep d = sweepUpdate { d with sweep := sweepReloaded d.sweep } := by
  have hdone : (if d.sweep.timer > 0 then d.sweep.timer - 1 else d.sweep.timer) = 0 := by split <;> omega
  rw [clockSweep, if_pos h, hdone, sweepReload_eq]
  rfl

/-- The sweep calculation disables channel 1 on an overflow (R569). -/
theorem sweepCheck_eq (d : Sound) : sweepCheck d = { d with ch1 := { d.ch1 with
    core := { d.ch1.core with en := d.ch1.core.en && decide (sweepTarget d.sweep ≤ 2047) } } } := by
  unfold sweepCheck
  split
  next h => rw [decide_eq_false (by omega), Bool.and_false]
  next h => rw [decide_eq_true (by omega), Bool.and_true]

/-- With the sweep off or its period 0 nothing is updated (R570). -/
theorem sweepUpdate_off {d : Sound} (h : d.sweep.en = false ∨ d.sweep.nr10.toNat / 16 % 8 = 0) : sweepUpdate d = d := by
  refine if_neg fun ⟨hen, hp⟩ => ?_
  rw [sweepPeriod_eq] at hp
  exact h.elim (ne_true_of_eq_false · hen) hp

/-- The update of a sweep that is on (R570). -/
theorem sweepUpdate_on {d : Sound} (h : d.sweep.en = true) (hp : d.sweep.nr10.toNat / 16 % 8 ≠ 0) :
    sweepUpdate d = if sweepTarget d.sweep ≤ 2047 ∧ d.sweep.nr10.toNat % 8 ≠ 0
      then sweepCheck (sweepWriteBack (sweepCheck d) (sweepTarget d.sweep)) else sweepCheck d := by
  rw [← sweepShift_eq]
  exact if_pos ⟨h, by rwa [sweepPeriod_eq]⟩

/-- NRx4 with its three frequency bits replaced (R570). -/
theorem nrx4_writeBack (x y : Byte) :
    ((x &&& 0xF8#8) ||| (y &&& 0x07#8)).toNat % 8 = y.toNat % 8
      ∧ ((x &&& 0xF8#8) ||| (y &&& 0x07#8)).toNat / 8 = x.toNat / 8 := by
  have hx : (x &&& 0xF8#8).toNat = (x.toNat / 8) <<< 3 := by revert x; decide
  have hy : (y &&& 0x07#8).toNat = y.toNat % 8 := and_seven_toNat y
  have hlt : y.toNat % 8 < 2 ^ 3 := Nat.mod_lt _ (by decide)
  rw [BitVec.toNat_or, hx, hy, ← Nat.shiftLeft_add_eq_or_of_lt hlt, Nat.shiftLeft_eq]
  omega

/-- The frequency written back is read from NR13 and NR14 (R570). -/
theorem sweepWriteBack_frequency (x : Byte) {new : Nat} (h : new ≤ 2047) :
    (BitVec.ofNat 8 new).toNat + 256 * (((x &&& 0xF8#8) ||| (BitVec.ofNat 8 (new / 256) &&& 0x07#8)).toNat % 8) = new := by
  rw [(nrx4_writeBack x _).1]
  simp only [BitVec.toNat_ofNat]
  omega

/-- An update that overflows disables channel 1 (R569, R570). -/
theorem sweepUpdate_overflow {d : Sound} (h : d.sweep.en = true) (hp : d.sweep.nr10.toNat / 16 % 8 ≠ 0)
    (ho : 2047 < sweepTarget d.sweep) :
    sweepUpdate d = { d with ch1 := { d.ch1 with core := { d.ch1.core with en := false } } } := by
  rw [sweepUpdate_on h hp, if_neg fun hn => by omega, sweepCheck, if_pos ho]

/-- One that does not, with shift 0, changes nothing (R570). -/
theorem sweepUpdate_unshifted {d : Sound} (h : d.sweep.en = true) (hp : d.sweep.nr10.toNat / 16 % 8 ≠ 0)
    (hn : sweepTarget d.sweep ≤ 2047) (hs : d.sweep.nr10.toNat % 8 = 0) : sweepUpdate d = d := by
  rw [sweepUpdate_on h hp, if_neg fun hn => hn.2 hs, sweepCheck, if_neg (by omega)]

/-- With a shift it writes the frequency back and checks the next one (R569, R570). -/
theorem sweepUpdate_written {d : Sound} (h : d.sweep.en = true) (hp : d.sweep.nr10.toNat / 16 % 8 ≠ 0)
    (hn : sweepTarget d.sweep ≤ 2047) (hs : d.sweep.nr10.toNat % 8 ≠ 0) :
    sweepUpdate d = { sweepWriteBack d (sweepTarget d.sweep) with
      ch1 := { (sweepWriteBack d (sweepTarget d.sweep)).ch1 with
        core := { d.ch1.core with en := d.ch1.core.en && decide (d.sweep.nr10.getLsbD 3 = true
          ∨ sweepTarget d.sweep + sweepTarget d.sweep / 2 ^ (d.sweep.nr10.toNat % 8) ≤ 2047) } } } := by
  have first : sweepCheck d = d := if_neg (by omega)
  have second : sweepTarget { d.sweep with shadow := sweepTarget d.sweep } ≤ 2047 ↔ (d.sweep.nr10.getLsbD 3 = true
      ∨ sweepTarget d.sweep + sweepTarget d.sweep / 2 ^ (d.sweep.nr10.toNat % 8) ≤ 2047) := by
    rw [← not_lt, ← gt_iff_lt, sweepTarget_overflows (w := { d.sweep with shadow := sweepTarget d.sweep }) hn, sweepShift_eq]
    simp only [not_and_or, Bool.not_eq_false, not_lt]
  rw [sweepUpdate_on h hp, if_pos ⟨hn, hs⟩, first, sweepCheck_eq]
  have swept : (sweepWriteBack d (sweepTarget d.sweep)).sweep = { d.sweep with shadow := sweepTarget d.sweep } := rfl
  simp only [swept, second]
  rfl

/-- What the sweep clock does, by the cases of R570. -/
structure SweepClocked (d t : Sound) : Prop where
  others : t.ch2 = d.ch2 ∧ t.ch3 = d.ch3 ∧ t.ch4 = d.ch4
  disabled : d.ch1.core.en = false → t.sweep = d.sweep ∧ t.ch1 = d.ch1
  running : d.ch1.core.en = true → 1 < d.sweep.timer →
    t.sweep = { d.sweep with timer := d.sweep.timer - 1 } ∧ t.ch1 = d.ch1
  off : d.ch1.core.en = true → d.sweep.timer ≤ 1 → d.sweep.en = false ∨ d.sweep.nr10.toNat / 16 % 8 = 0 →
    t.sweep = sweepReloaded d.sweep ∧ t.ch1 = d.ch1
  overflow : d.ch1.core.en = true → d.sweep.timer ≤ 1 → d.sweep.en = true → d.sweep.nr10.toNat / 16 % 8 ≠ 0 →
    2047 < sweepTarget d.sweep →
    t.sweep = sweepReloaded d.sweep ∧ t.ch1 = { d.ch1 with core := { d.ch1.core with en := false } }
  unshifted : d.ch1.core.en = true → d.sweep.timer ≤ 1 → d.sweep.en = true → d.sweep.nr10.toNat / 16 % 8 ≠ 0 →
    sweepTarget d.sweep ≤ 2047 → d.sweep.nr10.toNat % 8 = 0 → t.sweep = sweepReloaded d.sweep ∧ t.ch1 = d.ch1
  written : d.ch1.core.en = true → d.sweep.timer ≤ 1 → d.sweep.en = true → d.sweep.nr10.toNat / 16 % 8 ≠ 0 →
    sweepTarget d.sweep ≤ 2047 → d.sweep.nr10.toNat % 8 ≠ 0 →
    t.sweep = { sweepReloaded d.sweep with shadow := sweepTarget d.sweep }
      ∧ t.ch1 = { d.ch1 with
          core := { d.ch1.core with en := decide (d.sweep.nr10.getLsbD 3 = true
            ∨ sweepTarget d.sweep + sweepTarget d.sweep / 2 ^ (d.sweep.nr10.toNat % 8) ≤ 2047) }
          nrx3 := t.ch1.nrx3, nrx4 := t.ch1.nrx4 }
      ∧ t.ch1.nrx3.toNat + 256 * (t.ch1.nrx4.toNat % 8) = sweepTarget d.sweep
      ∧ t.ch1.nrx4.toNat / 8 = d.ch1.nrx4.toNat / 8

theorem clockSweep_clocked (d : Sound) : SweepClocked d (clockSweep d) where
  others := by
    have h := SweepOnly.clockSweep d
    generalize clockSweep d = t at h
    cases h
    exact ⟨rfl, rfl, rfl⟩
  disabled h := by rw [clockSweep_disabled h]; exact ⟨rfl, rfl⟩
  running h ht := by rw [clockSweep_running h ht]; exact ⟨rfl, rfl⟩
  off h ht ho := by
    rw [clockSweep_expired h ht, sweepUpdate_off (d := { d with sweep := sweepReloaded d.sweep }) ho]
    exact ⟨rfl, rfl⟩
  overflow h ht hen hp ho := by
    rw [clockSweep_expired h ht, sweepUpdate_overflow (d := { d with sweep := sweepReloaded d.sweep }) hen hp ho]
    exact ⟨rfl, rfl⟩
  unshifted h ht hen hp hn hs := by
    rw [clockSweep_expired h ht, sweepUpdate_unshifted (d := { d with sweep := sweepReloaded d.sweep }) hen hp hn hs]
    exact ⟨rfl, rfl⟩
  written h ht hen hp hn hs := by
    rw [clockSweep_expired h ht, sweepUpdate_written (d := { d with sweep := sweepReloaded d.sweep }) hen hp hn hs]
    refine ⟨rfl, ?_, sweepWriteBack_frequency d.ch1.nrx4 hn, (nrx4_writeBack d.ch1.nrx4 _).2⟩
    dsimp only
    rw [h, Bool.true_and]
    rfl

/-! ## The frame sequencer -/

/-- A channel's length after phase `p` (R566, R567). -/
def countedAt (p : Nat) (c : ChannelCore) (nrx4 : Byte) : ChannelCore := if p % 2 = 0 then lengthClock c nrx4 else c

/-- An envelope after phase `p` (R566, R568). -/
def steppedAt (p : Nat) (e : Envelope) (en : Bool) (r : Byte) : Envelope := if p = 7 then envelopeClock e en r else e

/-- The controller after phase `p`'s length and envelope clocks. -/
def clockedAt (p : Nat) (d : Sound) : Sound :=
  { d with
    ch1 := { d.ch1 with core := countedAt p d.ch1.core d.ch1.nrx4, env := steppedAt p d.ch1.env d.ch1.core.en d.ch1.nrx2 }
    ch2 := { d.ch2 with core := countedAt p d.ch2.core d.ch2.nrx4, env := steppedAt p d.ch2.env d.ch2.core.en d.ch2.nrx2 }
    ch3 := { d.ch3 with core := countedAt p d.ch3.core d.ch3.nr34 }
    ch4 := { d.ch4 with core := countedAt p d.ch4.core d.ch4.nr44, env := steppedAt p d.ch4.env d.ch4.core.en d.ch4.nr42 } }

/-- No phase clocks both lengths and envelopes, or the sweep and envelopes (R566). -/
theorem frameSequencer_eq (d : Sound) {p : Nat} (hp : p < 8) :
    frameSequencer d p = if p = 2 ∨ p = 6 then clockSweep (clockedAt p d) else clockedAt p d := by
  interval_cases p <;> rfl

/-! ## Counting a period down -/

/-- A unit that moves its countdown by 1 while it is not 1 comes to the end of a period of `n` after `n - 1` moves. -/
theorem iterate_countdown {α : Type} {f : α → α} {at' : Int → α}
    (step : ∀ k : Int, k ≠ 1 → f (at' k) = at' (k - 1)) {n m : Nat} (h : m < n) : f^[m] (at' n) = at' ((n : Int) - m) := by
  induction m with
  | zero => simp
  | succ m ih =>
    rw [Function.iterate_succ_apply', ih (by omega), step _ (by omega)]
    congr 1
    omega

/-- The last move of the period is the unit's move at countdown 1. -/
theorem iterate_period {α : Type} {f : α → α} {at' : Int → α}
    (step : ∀ k : Int, k ≠ 1 → f (at' k) = at' (k - 1)) {n : Nat} (h : 0 < n) : f^[n] (at' n) = f (at' 1) := by
  obtain ⟨m, rfl⟩ := Nat.exists_eq_succ_of_ne_zero (Nat.pos_iff_ne_zero.mp h)
  rw [Function.iterate_succ_apply', iterate_countdown step (Nat.lt_succ_self m)]
  congr 2
  omega

/-- A unit at the start of a period: where it is before the end, and its move at the end. -/
theorem counts_period {α : Type} {f : α → α} {at' : Int → α}
    (step : ∀ k : Int, k ≠ 1 → f (at' k) = at' (k - 1)) {a : α} {n : Nat} (start : a = at' n) (h : 0 < n) :
    (∀ m, m < n → f^[m] a = at' ((n : Int) - m)) ∧ f^[n] a = f (at' 1) := by
  rw [start]
  exact ⟨fun m hm => iterate_countdown step hm, iterate_period step h⟩

/-- The frequency value in arithmetic (R571, R572). -/
theorem freqValue_eq (nrx4 nrx3 : Byte) : freqValue nrx4 nrx3 = nrx4.toNat % 8 * 256 + nrx3.toNat := by
  rw [freqValue, and_seven_toNat]

/-- A square channel with another countdown. -/
def squareAt (q : Square) (k : Int) : Square := { q with core := { q.core with freqTimer := k } }

theorem tickSquare_squareAt {q : Square} (h : q.core.en = true) (k : Int) (hk : k ≠ 1) :
    tickSquare (squareAt q k) = squareAt q (k - 1) := (if_pos h).trans (if_neg (sub_ne_zero.mpr hk))

theorem tickSquare_end {q : Square} (h : q.core.en = true) : tickSquare (squareAt q 1)
    = { q with core := { q.core with freqTimer := squarePeriod q }, dutyPos := (q.dutyPos + 1) % 8 } :=
  (if_pos h).trans (if_pos rfl)

/-- A wave channel with another countdown. -/
def waveAt (w : Wave) (k : Int) : Wave := { w with core := { w.core with freqTimer := k } }

theorem tickWave_waveAt {w : Wave} (h : w.core.en = true) (k : Int) (hk : k ≠ 1) :
    tickWave (waveAt w k) = waveAt w (k - 1) := (if_pos h).trans (if_neg (sub_ne_zero.mpr hk))

theorem tickWave_end {w : Wave} (h : w.core.en = true) : tickWave (waveAt w 1)
    = { w with core := { w.core with freqTimer := wavePeriod w }, wavePos := (w.wavePos + 1) % 32 } :=
  (if_pos h).trans (if_pos rfl)

/-- A noise channel with another countdown. -/
def noiseAt (c : Noise) (k : Int) : Noise := { c with core := { c.core with freqTimer := k } }

theorem tickNoise_noiseAt {c : Noise} (h : c.core.en = true) (k : Int) (hk : k ≠ 1) :
    tickNoise (noiseAt c k) = noiseAt c (k - 1) := (if_pos h).trans (if_neg (sub_ne_zero.mpr hk))

theorem tickNoise_end {c : Noise} (h : c.core.en = true) : tickNoise (noiseAt c 1)
    = { c with core := { c.core with freqTimer := noisePeriod c }, lfsr := shiftLfsr c.lfsr c.nr43 } :=
  (if_pos h).trans (if_pos rfl)

/-- The noise period in arithmetic: the divisor table shifted (R573). -/
theorem noisePeriod_eq (c : Noise) : noisePeriod c
    = (((if c.nr43.toNat % 8 = 0 then 8 else 16 * (c.nr43.toNat % 8)) * 2 ^ (c.nr43.toNat / 16) : Nat) : Int) := by
  have divisor : ∀ k < 8, [8, 16, 32, 48, 64, 80, 96, 112].getD k 0 = if k = 0 then 8 else 16 * k := by decide
  have shift : (c.nr43 >>> 4).toNat = c.nr43.toNat / 16 := by simp [Nat.shiftRight_eq_div_pow]
  rw [noisePeriod, and_seven_toNat, divisor _ (Nat.mod_lt _ (by decide)), shift]

/-- The feedback rule bit by bit (R573). -/
theorem getLsbD_shiftLfsr (l : BitVec 15) (nr43 : Byte) {b : Nat} (hb : b < 15) : (shiftLfsr l nr43).getLsbD b
    = if b = 14 ∨ (b = 6 ∧ nr43.getLsbD 3 = true) then l.getLsbD 0 ^^ l.getLsbD 1 else l.getLsbD (b + 1) := by
  unfold shiftLfsr
  dsimp only
  cases nr43.getLsbD 3 <;> interval_cases b <;> simp

/-- Settles O57: the frame sequencer phase by phase, and the three units' periods. -/
theorem soundClocks : Obligations.SoundClocks := by
  refine ⟨?sequencer, ?square, ?wave, ?noise⟩
  case sequencer =>
    intro d p hp t counted stepped shift period moved new q reloaded
    have hcounted : counted = countedAt p := by
      funext c nrx4
      simp only [counted, countedAt, lengthClock_eq, ite_and]
    have hstepped : stepped = steppedAt p := by
      funext e en r
      simp only [stepped, steppedAt, envelopeClock_eq, ite_and]
    have hq : q = (clockedAt p d).ch1 := by simp only [q, hcounted, hstepped, clockedAt]
    have hnew : new = sweepTarget d.sweep := (sweepTarget_eq d.sweep).symm
    have ht : t = if p = 2 ∨ p = 6 then clockSweep (clockedAt p d) else clockedAt p d := frameSequencer_eq d hp
    have hc := clockSweep_clocked (clockedAt p d)
    refine ⟨?others, ?unswept, ?swept, ?frame⟩
    case others =>
      have kept : t.ch2 = (clockedAt p d).ch2 ∧ t.ch3 = (clockedAt p d).ch3 ∧ t.ch4 = (clockedAt p d).ch4 := by
        rw [ht]
        split
        exacts [hc.others, ⟨rfl, rfl, rfl⟩]
      rw [hcounted, hstepped]
      exact kept
    case unswept =>
      rintro (⟨h2, h6⟩ | hen) <;> rw [ht, hq]
      · rw [if_neg (not_or.mpr ⟨h2, h6⟩)]
        exact ⟨rfl, rfl⟩
      · split
        exacts [hc.disabled (hq ▸ hen), ⟨rfl, rfl⟩]
    case swept =>
      intro hphase hen
      rw [ht, if_pos hphase]
      clear_value q new
      subst hq hnew
      exact ⟨hc.running hen, hc.off hen, fun hexp hon hp => ⟨hc.overflow hen hexp hon hp, hc.unshifted hen hexp hon hp,
        hc.written hen hexp hon hp⟩⟩
    case frame =>
      have h : ChannelsOnly d t := .frameSequencer d p
      clear_value t
      cases h
      rfl
  case square =>
    intro q n hen hq period
    have hle := freqValue_le q.nrx4 q.nrx3
    have hperiod : squarePeriod q = period := by
      rw [squarePeriod]
      simp only [period, ← freqValue_eq]
      omega
    have hpos : 0 < period := by
      simp only [period, ← freqValue_eq]
      omega
    have start : q = squareAt q period := by rw [← hperiod, ← hq]; rfl
    obtain ⟨before, last⟩ := counts_period (tickSquare_squareAt hen) start hpos
    exact ⟨hperiod, before n, by rw [last, tickSquare_end hen, ← hq]⟩
  case wave =>
    intro w n hen hw period
    have hle := freqValue_le w.nr34 w.nr33
    have hperiod : wavePeriod w = period := by
      rw [wavePeriod]
      simp only [period, ← freqValue_eq]
      omega
    have hpos : 0 < period := by
      simp only [period, ← freqValue_eq]
      omega
    have start : w = waveAt w period := by rw [← hperiod, ← hw]; rfl
    obtain ⟨before, last⟩ := counts_period (tickWave_waveAt hen) start hpos
    exact ⟨hperiod, before n, by rw [last, tickWave_end hen, ← hw]⟩
  case noise =>
    intro c n hen hc code period x
    have hperiod : noisePeriod c = period := noisePeriod_eq c
    have hpos : 0 < period := Nat.mul_pos (by split <;> omega) (Nat.two_pow_pos _)
    have start : c = noiseAt c period := by rw [← hperiod, ← hc]; rfl
    obtain ⟨before, last⟩ := counts_period (tickNoise_noiseAt hen) start hpos
    rw [tickNoise_end hen, ← hc] at last
    refine ⟨hperiod, before n, ?_, fun b hb => ?_⟩ <;> rw [last]
    exact getLsbD_shiftLfsr c.lfsr c.nr43 hb

end Sys2Proof.Machine
end

section
/-! SUPPORT. The rasterizer (O53): the model's tiles, layers, objects and shades as the statements write them, and the winner
of a column as the least of its objects. -/

namespace Sys2Proof.Machine

open Sys2Proof.Claims

/-! ## Tiles and shades -/

/-- A bit of a byte in arithmetic. -/
theorem ofBool_getLsbD_toNat (v : Byte) (b : Nat) : (BitVec.ofBool (v.getLsbD b)).toNat = v.toNat / 2 ^ b % 2 := by
  rw [BitVec.getLsbD, Nat.testBit_eq_decide_div_mod_eq, BitVec.toNat_ofBool]
  rcases Nat.mod_two_eq_zero_or_one (v.toNat / 2 ^ b) with h | h <;> simp [h]

/-- The two bytes of a tile row give the code of a column, bit 7 first (R533). -/
theorem tileCode_toNat (mem : Memory) (base col : Nat) : (tileCode mem base col).toNat = rowCode mem base col := by
  have low := (BitVec.ofBool ((Memory.read mem base).getLsbD (7 - col))).isLt
  rw [tileCode, BitVec.toNat_append, ← Nat.shiftLeft_add_eq_or_of_lt low, ofBool_getLsbD_toNat, ofBool_getLsbD_toNat,
    Nat.shiftLeft_eq, rowCode]
  omega

/-- The tile base, its index signed where LCDC[4] is 0 (R533). -/
theorem tileBase_eq (d : Lcd) (idx : Byte) : tileBase d.lcdc idx = tileAt d idx := by
  have hlt := idx.isLt
  unfold tileBase tileAt
  rw [BitVec.toInt_eq_toNat_cond]
  split
  · rfl
  · split <;> split <;> omega

/-- A pixel of a tile map (R531, R532). -/
theorem mapPixel_toNat (mem : Memory) (d : Lcd) (map px py : Nat) :
    (mapPixel mem d.lcdc map px py).toNat = mapCode mem d map px py := by
  rw [mapPixel, tilePixel, tileCode_toNat, tileBase_eq, mapCode]

/-- The background or window code of a column (R531 to R534). -/
theorem layerCode_toNat (mem : Memory) (d : Lcd) (y x : Nat) : (layerCode mem d y x).toNat = layer mem d y x := by
  unfold layerCode layer
  by_cases h0 : d.lcdc.getLsbD 0 = false
  · rw [if_pos h0, if_pos h0]
    rfl
  · have hon : d.lcdc.getLsbD 0 = true := by simpa using h0
    have covers : windowCovers d y x = true ↔ d.lcdc.getLsbD 5 = true ∧ d.wy.toNat ≤ y ∧ d.wx.toNat ≤ x + 7 := by
      simp only [windowCovers, hon, Bool.true_and, Bool.and_eq_true, decide_eq_true_eq, ge_iff_le, and_assoc]
    rw [if_neg h0, if_neg h0]
    simp only [covers]
    split
    exacts [mapPixel_toNat .., mapPixel_toNat ..]

/-- A palette register's shade of a code (R64). -/
theorem paletteShade_toNat (pal : Byte) (code : BitVec 2) : (paletteShade pal code).toNat = shadeOf pal code.toNat := by
  rw [paletteShade, BitVec.extractLsb'_toNat, Nat.shiftRight_eq_div_pow, Nat.pow_mul, shadeOf]

/-- The background or window shade of a column (R534). -/
theorem layerShade_toNat (mem : Memory) (d : Lcd) (y x : Nat) :
    (layerShade d (layerCode mem d y x)).toNat = layerShadeAt mem d y x := by
  unfold layerShade layerShadeAt
  split
  · rfl
  · rw [paletteShade_toNat, layerCode_toNat]

/-! ## Objects -/

/-- The objects selected for a line are the statements' by number (R535). -/
theorem selectedObjects_eq (mem : Memory) (d : Lcd) (y : Nat) :
    selectedObjects mem d y = (lineObjects mem d y).map (objectAt mem) := by
  unfold selectedObjects lineObjects
  split
  · rw [List.filter_map, List.map_take]
    congr 3
    funext i
    exact (Bool.decide_and ..).symm
  · rfl

/-- The code of an object's column, 0 where it does not cover it (R536). -/
theorem objCode_eq (mem : Memory) (d : Lcd) (y x i : Nat) : objCode mem d y x i
    = if coversColumn (objectAt mem i) x = true then (objectCode mem d y x (objectAt mem i)).toNat else 0 := by
  have height : tall d = 16 ↔ d.lcdc.getLsbD 2 = true := by
    unfold tall
    split <;> simp_all
  have even : ∀ t : Byte, (t &&& 0xFE#8).toNat = t.toNat / 2 * 2 := by decide
  have covers : coversColumn (objectAt mem i) x = true
      ↔ (objByte mem i 1).toNat ≤ x + 8 ∧ x + 8 < (objByte mem i 1).toNat + 8 := by
    simp only [coversColumn, Bool.and_eq_true, decide_eq_true_eq]
    rfl
  have tile : (objectTile d (objectAt mem i)).toNat
      = if tall d = 16 then (objByte mem i 2).toNat / 2 * 2 else (objByte mem i 2).toNat := by
    simp only [objectTile, height]
    split
    exacts [even _, rfl]
  simp only [covers, objectCode, tileCode_toNat, tile]
  rfl

/-- An object shows a pixel where its code is not 0 (R537). -/
theorem opaqueAt_iff (mem : Memory) (d : Lcd) (y x i : Nat) :
    opaqueAt mem d y x (objectAt mem i) = decide (objCode mem d y x i ≠ 0) := by
  rw [objCode_eq, opaqueAt]
  cases coversColumn (objectAt mem i) x with
  | true => rw [Bool.true_and, if_pos rfl, Bool.eq_iff_iff]; simp [← BitVec.toNat_inj]
  | false => simp

/-! ## The winner of a column -/

/-- Object `i` comes before object `j`: a smaller X, or the same and a smaller number (R537). -/
def Before (mem : Memory) (i j : Nat) : Prop :=
  (objByte mem i 1).toNat < (objByte mem j 1).toNat ∨ ((objByte mem i 1).toNat = (objByte mem j 1).toNat ∧ i < j)

/-- The leftmost of objects listed by number comes before the others (R537). -/
theorem leftmost_map {mem : Memory} {l : List Nat} (hl : l.Pairwise (· < ·)) :
    (leftmost (l.map (objectAt mem)) = none → l = [])
      ∧ ∀ o, leftmost (l.map (objectAt mem)) = some o →
        ∃ i ∈ l, o = objectAt mem i ∧ ∀ j ∈ l, j ≠ i → Before mem i j := by
  induction l with
  | nil => exact ⟨fun _ => rfl, fun o ho => by cases ho⟩
  | cons a l ih =>
    obtain ⟨ha, hl⟩ := List.pairwise_cons.mp hl
    obtain ⟨hnone, hsome⟩ := ih hl
    rw [List.map_cons, leftmost]
    refine ⟨fun h => ?_, fun o h => ?_⟩
    · split at h
      · cases h
      · split at h <;> cases h
    · split at h
      next hl => exact ⟨a, .head _, (Option.some.inj h).symm, by simp [hnone hl]⟩
      next p hp =>
        obtain ⟨i, hi, rfl, first⟩ := hsome p hp
        split at h
        next hlt =>
          refine ⟨i, .tail _ hi, (Option.some.inj h).symm, fun j hj hne => ?_⟩
          obtain rfl | hj := List.mem_cons.mp hj
          exacts [.inl hlt, first j hj hne]
        next hle =>
          refine ⟨a, .head _, (Option.some.inj h).symm, fun j hj hne => ?_⟩
          have hj := (List.mem_cons.mp hj).resolve_left hne
          have hai : (objByte mem a 1).toNat ≤ (objByte mem i 1).toNat := Nat.le_of_not_lt hle
          have hij : (objByte mem i 1).toNat ≤ (objByte mem j 1).toNat := by
            by_cases hji : j = i
            · rw [hji]
            · exact (first j hj hji).elim Nat.le_of_lt fun h => h.1.le
          exact (hai.trans hij).lt_or_eq.imp_right fun h => ⟨h, ha j hj⟩

/-- The objects of a line are listed by number (R535). -/
theorem lineObjects_sorted (mem : Memory) (d : Lcd) (y : Nat) : (lineObjects mem d y).Pairwise (· < ·) := by
  unfold lineObjects
  split
  · exact List.pairwise_lt_range.sublist ((List.take_sublist ..).trans List.filter_sublist)
  · exact .nil

/-- No object of the line shows a pixel at the column, or the model's winner is the one that wins it (R537). -/
theorem winnerAt_cases (mem : Memory) (d : Lcd) (y x : Nat) :
    (winnerAt mem d y x = none ∧ ∀ i ∈ lineObjects mem d y, objCode mem d y x i = 0)
      ∨ ∃ i, wins mem d y x i ∧ winnerAt mem d y x = some (objectAt mem i) := by
  have showing : winnerAt mem d y x
      = leftmost (((lineObjects mem d y).filter fun i => decide (objCode mem d y x i ≠ 0)).map (objectAt mem)) := by
    rw [winnerAt, selectedObjects_eq, List.filter_map]
    congr 3
    exact funext (opaqueAt_iff mem d y x)
  obtain ⟨hnone, hsome⟩ := leftmost_map (mem := mem)
    ((lineObjects_sorted mem d y).filter fun i => decide (objCode mem d y x i ≠ 0))
  rw [← showing] at hnone hsome
  cases hw : winnerAt mem d y x with
  | none => exact .inl ⟨rfl, by simpa using hnone hw⟩
  | some o =>
    obtain ⟨i, hi, rfl, first⟩ := hsome o hw
    obtain ⟨hi, hcode⟩ := List.mem_filter.mp hi
    exact .inr ⟨i, ⟨hi, of_decide_eq_true hcode,
      fun j hj hc hne => first j (List.mem_filter.mpr ⟨hj, decide_eq_true hc⟩) hne⟩, rfl⟩

/-- At most one object wins a column. -/
theorem wins_unique {mem : Memory} {d : Lcd} {y x i j : Nat} (hi : wins mem d y x i) (hj : wins mem d y x j) : i = j := by
  obtain ⟨mi, ci, firstI⟩ := hi
  obtain ⟨mj, cj, firstJ⟩ := hj
  by_contra hne
  have before := firstI j mj cj (Ne.symm hne)
  have after := firstJ i mi ci hne
  omega

/-! ## The pixels of a line -/

/-- Where no object shows a pixel the shade is the layer's (R534, R537). -/
theorem pixelShade_layer {mem : Memory} {d : Lcd} {y x : Nat} (h : ∀ i ∈ lineObjects mem d y, objCode mem d y x i = 0) :
    (pixelShade mem d y x).toNat = layerShadeAt mem d y x := by
  obtain ⟨hw, -⟩ | ⟨i, ⟨hi, hc, -⟩, -⟩ := winnerAt_cases mem d y x
  · simp only [pixelShade, hw, layerShade_toNat]
  · exact absurd (h i hi) hc

/-- Where an object wins, its shade shows unless it is behind a layer code that is not 0 (R536, R537). -/
theorem pixelShade_wins {mem : Memory} {d : Lcd} {y x i : Nat} (h : wins mem d y x i) :
    (pixelShade mem d y x).toNat = if (objByte mem i 3).getLsbD 7 = true ∧ layer mem d y x ≠ 0 then layerShadeAt mem d y x
      else shadeOf (if (objByte mem i 3).getLsbD 4 = true then d.obp1 else d.obp0) (objCode mem d y x i) := by
  have hc : objCode mem d y x i ≠ 0 := h.2.1
  have shown : objCode mem d y x i = (objectCode mem d y x (objectAt mem i)).toNat := by
    rw [objCode_eq] at hc ⊢
    exact if_pos (by_contra fun hx => hc (if_neg hx))
  have layerOn : layerCode mem d y x ≠ 0#2 ↔ layer mem d y x ≠ 0 := by
    rw [← layerCode_toNat, ne_eq, ← BitVec.toNat_inj, BitVec.toNat_ofNat]
  obtain ⟨-, none⟩ | ⟨j, hj, hw⟩ := winnerAt_cases mem d y x
  · exact absurd (none i h.1) hc
  · obtain rfl := wins_unique h hj
    simp only [pixelShade, hw, layerOn, apply_ite BitVec.toNat, layerShade_toNat, objectShade, paletteShade_toNat, shown]
    rfl

/-- Entering mode 0 draws the line into its row and keeps the rest (R530, R538). -/
theorem enterMode_zero_lcd (s : State) : (enterMode 0#2 s).lcd = rasterize s.mem s.lcd s.lcd.ly.toNat := by
  rw [(enterMode_cases s).1, requestStat_lcd, withLcd_lcd]

/-- A column of a drawn line. -/
theorem getD_map_range (f : Nat → BitVec 2) {x : Nat} (hx : x < 160) : ((List.range 160).map f).getD x 0 = f x := by
  simp [List.getD_eq_getElem?_getD, hx]

/-- Settles O53: the row is the list of the model's pixel shades, and the winner of each column is the least of the objects
that show a pixel there. -/
theorem rasterizedLine : Obligations.RasterizedLine := by
  unfold Obligations.RasterizedLine
  intro s hy wf
  have rowEq : (rasterize s.mem s.lcd s.lcd.ly.toNat).frameBuffer.getD s.lcd.ly.toNat []
      = (List.range 160).map (pixelShade s.mem s.lcd s.lcd.ly.toNat) := by
    simp [rasterize, List.getD_eq_getElem?_getD, wf.rows, hy]
  simp only [enterMode_zero_lcd, rowEq]
  refine ⟨by simp, fun r hr => ?_, fun x hx => ?_⟩
  · simp [rasterize, List.getD_eq_getElem?_getD, List.getElem?_set_ne (Ne.symm hr)]
  · rw [rasterize, getD_map_range _ hx, getD_map_range _ hx]
    refine ⟨layerCode_toNat .., pixelShade_layer, fun ⟨i, hi, hc⟩ => ?_, fun i => pixelShade_wins⟩
    obtain ⟨-, none⟩ | ⟨j, hj, -⟩ := winnerAt_cases s.mem s.lcd s.lcd.ly.toNat x
    exacts [absurd (none i hi) hc, ⟨j, hj⟩]

end Sys2Proof.Machine
end

section
/-! SUPPORT. Loading a cartridge (O59): the header checksum as a sum, the codes of the header bytes, and which check of R604
decides. -/

namespace Sys2Proof.Machine

/-! ## The header bytes -/

/-- A step of the checksum on a negated sum adds the byte and 1 to the sum (R604). -/
theorem checksum_step (n : Nat) (v : Byte) :
    BitVec.ofInt 8 (-(n : Int)) - v - 1#8 = BitVec.ofInt 8 (-((n + v.toNat + 1 : Nat) : Int)) := by
  simp only [BitVec.ofInt_neg, BitVec.ofInt_natCast, BitVec.ofNat_add, BitVec.ofNat_toNat, BitVec.setWidth_eq]
  ring

/-- The checksum is the negated sum of the header bytes, each plus 1 (R604). -/
theorem headerChecksum_eq (r : Image) :
    headerChecksum r = BitVec.ofInt 8
      (-(((List.range 25).foldl (fun acc i => acc + (headerByte r (0x134 + i)).toNat + 1) 0 : Nat) : Int)) := by
  have start : BitVec.ofInt 8 (-((0 : Nat) : Int)) = 0#8 := rfl
  rw [headerChecksum, ← start]
  generalize List.range 25 = l
  exact List.foldl_hom (fun n : Nat => BitVec.ofInt 8 (-(n : Int))) fun n i => checksum_step n (headerByte r (0x134 + i))

/-- The controller codes that R605 lists. -/
def listedControllers : List Nat := [0x00, 0x01, 0x02, 0x03, 0x05, 0x06, 0x0F, 0x10, 0x11, 0x12, 0x13]

/-- The controller of a listed code, by the ranges of R605. -/
def listedKind (n : Nat) : MbcType := if n = 0 then .none else if n ≤ 3 then .mbc1 else if n ≤ 6 then .mbc2 else .mbc3

/-- A listed code has the controller of its range (R605). -/
theorem controllerOf_listed {b : Byte} (h : b.toNat ∈ listedControllers) : controllerOf b = some (listedKind b.toNat) := by
  have codes : ∀ n ∈ listedControllers, controllerOf (BitVec.ofNat 8 n) = some (listedKind n) := by decide
  simpa using codes _ h

/-- A code that is not listed has no controller (R605). -/
theorem controllerOf_unlisted {b : Byte} (h : b.toNat ∉ listedControllers) : controllerOf b = none := by
  simp_all [controllerOf, listedControllers, ← BitVec.toNat_inj]

/-- The RAM banks of the codes 0 to 3 (R606). -/
theorem ramBanksOf_of_le {b : Byte} (h : b.toNat ≤ 3) : ramBanksOf b = some ([0, 1, 1, 4].getD b.toNat 0) := by
  unfold ramBanksOf
  interval_cases b.toNat <;> rfl

/-- A RAM code above 3 has no bank count (R606). -/
theorem ramBanksOf_of_gt {b : Byte} (h : 3 < b.toNat) : ramBanksOf b = none := by
  unfold ramBanksOf
  split
  case h_5 => rfl
  all_goals omega

/-! ## The deciding check -/

section
variable {r : Image} (boot : Memory)

/-- An image of full length with another checksum is rejected (R604). -/
theorem loadCartridge_badChecksum (hlen : 0x150 ≤ r.len) (hsum : headerByte r 0x14D ≠ headerChecksum r) :
    loadCartridge (some r) boot = .error (.badChecksum (headerByte r 0x14D) (headerChecksum r)) := by
  rw [loadCartridge, if_neg (Nat.not_lt.2 hlen), if_pos hsum.symm]

/-- An image of full length with its checksum is decided by the header checks (R604). -/
theorem loadCartridge_checkHeader (hlen : 0x150 ≤ r.len) (hsum : headerByte r 0x14D = headerChecksum r) :
    loadCartridge (some r) boot = checkHeader r boot := by
  rw [loadCartridge, if_neg (Nat.not_lt.2 hlen), if_neg (not_not.2 hsum.symm)]

/-- An unlisted controller is the first failing header check. -/
theorem checkHeader_controller (hk : (headerByte r 0x147).toNat ∉ listedControllers) :
    checkHeader r boot = .error (.unsupportedController (headerByte r 0x147)) := by
  simp only [checkHeader, controllerOf_unlisted hk]

variable (hk : (headerByte r 0x147).toNat ∈ listedControllers)
include hk

/-- With a listed controller, colour-only is the first failing header check. -/
theorem checkHeader_colour (hc : headerByte r 0x143 = 0xC0#8) : checkHeader r boot = .error .colorOnly := by
  simp only [checkHeader, controllerOf_listed hk, if_pos hc]

variable (hc : headerByte r 0x143 ≠ 0xC0#8)
include hc

/-- With the controller and colour checks passed, a RAM code above 3 is the first failure. -/
theorem checkHeader_ramSize (hr : 3 < (headerByte r 0x149).toNat) :
    checkHeader r boot = .error (.unsupportedRamSize (headerByte r 0x149)) := by
  simp only [checkHeader, controllerOf_listed hk, if_neg hc, ramBanksOf_of_gt hr]

variable (hr : (headerByte r 0x149).toNat ≤ 3)
include hr

/-- With the earlier checks passed, a ROM code above 8 fails the last one. -/
theorem checkHeader_romSize (hm : 8 < (headerByte r 0x148).toNat) :
    checkHeader r boot = .error (.unsupportedRomSize (headerByte r 0x148)) := by
  simp only [checkHeader, controllerOf_listed hk, if_neg hc, ramBanksOf_of_le hr, if_pos hm]

/-- An image that passes every check is accepted with the controller and the banks of its header. -/
theorem checkHeader_accepts (hm : (headerByte r 0x148).toNat ≤ 8) :
    checkHeader r boot = .ok { rom := r, bootImage := boot, mbcType := listedKind (headerByte r 0x147).toNat,
                               romBanks := 2 * 2 ^ (headerByte r 0x148).toNat,
                               ramBanks := [0, 1, 1, 4].getD (headerByte r 0x149).toNat 0 } := by
  simp only [checkHeader, controllerOf_listed hk, if_neg hc, ramBanksOf_of_le hr, if_neg (Nat.not_lt.2 hm)]

end

/-- Settles O59: the checks by the lemma of the one that decides, with the checksum as the negated sum. -/
theorem cartridgeChecks : Obligations.CartridgeChecks := by
  unfold Obligations.CartridgeChecks
  refine ⟨fun _ => rfl, fun r boot hlen => if_pos hlen, fun r boot hlen => ?_⟩
  intro byte sum checksum known
  have sumEq : headerChecksum r = checksum := headerChecksum_eq r
  rw [← sumEq]
  refine ⟨loadCartridge_badChecksum boot hlen, fun hsum => ?_⟩
  rw [loadCartridge_checkHeader boot hlen hsum]
  exact ⟨checkHeader_controller boot, checkHeader_colour boot, checkHeader_ramSize boot, checkHeader_romSize boot,
    fun hk hc hr hm => ⟨_, checkHeader_accepts boot hk hc hr hm, rfl, rfl, rfl, rfl, rfl⟩⟩

end Sys2Proof.Machine
end
